-- ==== Sys2Proof/Word.lean ====
section
/-! DEFINITION. The word types of the block: bytes of IN, OUT and the streams, 32-bit registers
(spec/00_scope.md R9, R11), and IEEE 754 binary64 data (spec/46_logluv.md R287). -/

namespace Sys2Proof

/-- A byte of IN, OUT, `Lin` or a decoded stream (R11). -/
abbrev Byte := BitVec 8

/-- A register word (R9: register width 32 bits). -/
abbrev Word := BitVec 32

/-- A binary64 datum in its interchange encoding: sign, 11-bit exponent, 52-bit fraction (R287). -/
abbrev F64 := BitVec 64

end Sys2Proof
end

