-- ==== Sys2Proof/Config.lean ====
section
/-! DEFINITION. What the spec leaves open: the named parameters of spec/00_scope.md R10 and the free
values of spec/60_exceptions.md R439. All are opaque constants: no proof can see a value of one.
Log 4 to log 9. -/

namespace Sys2Proof

/-- One row of the LogLuv24 chrominance table `UV_ROW` (R10, R292). -/
structure UvRow where
  ustart : F64
  nus : Nat
  ncum : Nat
  deriving DecidableEq, Repr, Inhabited

/-- What the inflate primitive does with a byte: it goes on, the zlib stream has ended correctly, its Adler-32
check included, or the byte shows it to be malformed (R410). -/
inductive InflateTurn where
  | goesOn
  | ends
  | faults
  deriving DecidableEq, Repr, Inhabited

/-- The parameters of R10 as one argument, so that an operation can be run on any choice of them. -/
structure Params where
  /-- `MAX_IN_BYTES`: the size of IN (D2). -/
  maxInBytes : Nat
  /-- `MAX_OUT_BYTES`: the size of OUT (D2). -/
  maxOutBytes : Nat
  /-- `MAX_WIDTH`: the largest WIDTH the block accepts (D55). -/
  maxWidth : Nat
  /-- `IDCT8`: 64 integers in natural order to 64 integers in natural order (R336, D38). -/
  idct8 : List Int → List Int
  /-- `INFLATE` as the streaming primitive of D50: the bytes it produces on one more byte after those it has
  consumed, and what it does then. `inflate` of Machine/PackBits.lean runs it (R410, R412, log 6). -/
  inflateByte : List Byte → Byte → List Byte × InflateTurn
  /-- `LOGLUV24_RLE` (R285, D45). -/
  logluv24Rle : Bool
  /-- `LOGLUV_TOCODE`, on the binary64 value it is applied to (R288, D47). -/
  toCode : F64 → Byte
  /-- `LOGLUV_MATRIX`, row `k`, column `j` (R293, D47). -/
  matrix : Nat → Nat → F64
  /-- `UV_ROW`, rows 0 to 162 (R292, D48). -/
  uvRow : Nat → UvRow
  /-- `EXP64` (R287, D49). -/
  exp64 : F64 → F64

/-- `MAX_IN_BYTES` less one: R10 makes the parameter at least 1. -/
opaque Config.maxInBytesLessOne : Nat
/-- `MAX_OUT_BYTES` less one. -/
opaque Config.maxOutBytesLessOne : Nat
/-- `MAX_WIDTH` less one. -/
opaque Config.maxWidthLessOne : Nat
/-- The inverse DCT on blocks that R336 does not fix. -/
opaque Config.idct8Open : List Int → List Int
/-- The inflate primitive, byte by byte. -/
opaque Config.inflateByte : List Byte → Byte → List Byte × InflateTurn
opaque Config.logluv24Rle : Bool
opaque Config.toCode : F64 → Byte
opaque Config.matrix : Nat → Nat → F64
opaque Config.uvRow : Nat → UvRow
opaque Config.exp64 : F64 → F64

/-- The sign, quiet bit and payload of a NaN that an operation of R287 makes: IEEE 754 leaves them open
(log 7). -/
opaque Config.nanBits : F64

/-- FREE VALUE. What byte `a` of IN holds after reset number `epoch`, until it is written (R450). -/
opaque Config.inFill (epoch a : Nat) : Byte
/-- FREE VALUE. What byte `a` of OUT holds after reset number `epoch`, until it is written (R450). -/
opaque Config.outFill (epoch a : Nat) : Byte
/-- FREE VALUE. What failed DECODE or UPSAMPLE_YCBCR number `n` leaves in OUT[a] (R64, R439). -/
opaque Config.outDraw (n a : Nat) : Byte

/-- `IDCT8` with the one constraint of R336: a block whose only non-zero coefficient is `F[0] = 8·m`
gives `m` in all 64 positions. Every other block is the open realisation's (log 5). -/
def Config.idct8 (F : List Int) : List Int :=
  if F.length = 64 ∧ F.drop 1 = List.replicate 63 0 ∧ F.headD 0 % 8 = 0 then
    List.replicate 64 (F.headD 0 / 8)
  else (List.range 64).map fun i => (Config.idct8Open F).getD i 0

/-- The parameters of the machine. -/
def Config.params : Params where
  maxInBytes := Config.maxInBytesLessOne + 1
  maxOutBytes := Config.maxOutBytesLessOne + 1
  maxWidth := Config.maxWidthLessOne + 1
  idct8 := Config.idct8
  inflateByte := Config.inflateByte
  logluv24Rle := Config.logluv24Rle
  toCode := Config.toCode
  matrix := Config.matrix
  uvRow := Config.uvRow
  exp64 := Config.exp64

end Sys2Proof
end

