-- ==== Sys2Proof/Machine/State.lean ====
section
/-! DEFINITION. The state of the block as plain data: spec/10_state.md R20 to R47, spec/20_memory.md R60,
and the codec state that R46 lists for each unit. `State.reset` is spec/70_reset_and_hazards.md R450.
The model's own fields (`hostQueue`, `readBack`, `focus`, `epoch`, `draws`) are named in log 1, 2, 9 and 10. -/

namespace Sys2Proof.Machine

/-! ### Errors and the latch -/

/-- The error kinds of spec/60_exceptions.md R420, each of exactly one class. -/
inductive ErrKind where
  | reservedBits | illegalCmd | noSlice | noStrip | stripActive
  | inLen | bpr | spp | bps | width | height | rowsRange | yccSub | yccCoef
  | codec | predictor | faxUncompressed | jpegMode | jpegPrecision | jpegMultiscan | jpegDnl
  | truncated | lzwBadCode | faxBadCode | faxBadRun | logluvRun | inflate | jpegNoSoi
  | jpegBadMarker | jpegBadSegment | jpegBadTable | jpegNoTable | jpegGeometry | jpegBadHuff
  | jpegBadData | jpegRestart
  deriving DecidableEq, Repr

/-- The error latch while ERR = 1 (R45): CLASS and KIND are codes of `kind`, ERR_ROW is `row` and
ERR_STRIP is `strip`. -/
structure ErrorLatch where
  kind : ErrKind
  row : Word
  strip : Word
  deriving DecidableEq, Repr

/-- The terminator of a decoded stream (spec/00_scope.md R13): `End`, or `Error(class, kind)`. -/
inductive Terminator where
  | done
  | error (k : ErrKind)
  deriving DecidableEq, Repr

/-! ### Registers and the latched configuration -/

/-- The LUMA_* and REFBW_* registers (R38), which `L` copies whole. -/
structure YccCoefs where
  (lumaRNum lumaRDen lumaGNum lumaGDen lumaBNum lumaBDen : Word)
  (refbw0Num refbw0Den refbw1Num refbw1Den refbw2Num refbw2Den : Word)
  (refbw3Num refbw3Den refbw4Num refbw4Den refbw5Num refbw5Den : Word)
  deriving DecidableEq, Repr

/-- The RW registers of R23, each a word whose reserved bits the register operations keep at 0. -/
structure Regs where
  (codec photometric width height bps spp layout predictor : Word)
  (t4opt t6opt yccSub bpr rowStart rows stripIndex inLen : Word)
  coef : YccCoefs
  deriving DecidableEq, Repr

/-- The latched configuration `L` of R40. -/
structure Latched where
  (codec photometric width bps spp layout predictor t4opt t6opt bpr stripIndex inLen : Word)
  coef : YccCoefs
  deriving DecidableEq, Repr

/-- The reset values of LUMA_* and REFBW_* (R23). -/
def YccCoefs.reset : YccCoefs where
  lumaRNum := 299
  lumaRDen := 1000
  lumaGNum := 587
  lumaGDen := 1000
  lumaBNum := 114
  lumaBDen := 1000
  refbw0Num := 0
  refbw0Den := 1
  refbw1Num := 255
  refbw1Den := 1
  refbw2Num := 128
  refbw2Den := 1
  refbw3Num := 255
  refbw3Den := 1
  refbw4Num := 128
  refbw4Den := 1
  refbw5Num := 255
  refbw5Den := 1

/-- The reset values of the RW registers (R23). -/
def Regs.reset : Regs where
  codec := 0
  photometric := 0
  width := 0
  height := 0
  bps := 1
  spp := 1
  layout := 0
  predictor := 1
  t4opt := 0
  t6opt := 0
  yccSub := 0x122
  bpr := 0
  rowStart := 0
  rows := 0
  stripIndex := 0
  inLen := 0
  coef := YccCoefs.reset

/-- `L` after reset, STRIP_END and SLICE_BEGIN: the reset value of each register (R40). -/
def Latched.reset : Latched where
  codec := 0
  photometric := 0
  width := 0
  bps := 1
  spp := 1
  layout := 0
  predictor := 1
  t4opt := 0
  t6opt := 0
  bpr := 0
  stripIndex := 0
  inLen := 0
  coef := YccCoefs.reset

/-! ### JPEG tables -/

/-- Four like things, numbered 0 to 3 (R44: Q[0..3], H_DC[0..3], H_AC[0..3]). -/
structure Quad (α : Type) where
  (t0 t1 t2 t3 : α)
  deriving DecidableEq, Repr

/-- A built Huffman table (spec/47_jpeg.md R322, R323). The lists `mincode`, `maxcode` and `valptr` have an
entry for each length 1 to 16 in that order, and `bits` likewise; `maxcode` is -1 for a length with no code. -/
structure HuffTable where
  bits : List Nat
  huffval : List Byte
  mincode : List Nat
  maxcode : List Int
  valptr : List Nat
  deriving DecidableEq, Repr

/-- A JPEG table set (R44): quantisation tables in natural order, Huffman tables, restart interval. -/
structure JpegTables where
  q : Quad (Option (List (BitVec 16)))
  dc : Quad (Option HuffTable)
  ac : Quad (Option HuffTable)
  ri : BitVec 16
  deriving DecidableEq, Repr

/-- Every table undefined, RI = 0 (R44). -/
def JpegTables.reset : JpegTables where
  q := ⟨none, none, none, none⟩
  dc := ⟨none, none, none, none⟩
  ac := ⟨none, none, none, none⟩
  ri := 0

/-! ### Codec state (R46) -/

/-- An LZW dictionary entry (spec/42_lzw.md R152): prefix code, suffix byte, length, first byte. -/
structure LzwEntry where
  pre : Nat
  suffix : Byte
  length : Nat
  first : Byte
  deriving DecidableEq, Repr

/-- The LZW state of R152. `dict` holds the entries from 258 on, so `nextFree` is 258 plus its length. -/
structure LzwState where
  old : Bool
  nbits : Nat
  prev : Option Nat
  dict : List LzwEntry
  deriving DecidableEq, Repr

/-- Fax colours. -/
inductive Colour where
  | white
  | black
  deriving DecidableEq, Repr

/-- Which fax symbol comes next (spec/43_fax_mh.md R199, R200; spec/44_fax_read.md R226, R232, R240). -/
inductive FaxPhase where
  /-- Before a compression-2 row (byte alignment, end test) or a Group 4 row (end test). -/
  | rowStart
  /-- Before a Group 3 EOL. -/
  | seekEol
  /-- Before a Group 3 tag bit. -/
  | tag
  /-- After a Group 3 EOL and tag bit: the end test, then a row of the given kind. -/
  | rowTest (twoD : Bool)
  /-- Inside a one-dimensional row. -/
  | run1D
  /-- Inside a two-dimensional row, before a mode code. -/
  | mode
  /-- After H, before or inside its first run. -/
  | hRun1
  /-- After the first run of H. -/
  | hRun2
  deriving DecidableEq, Repr

/-- The fax state of R191 and R221. Pixels are `true` for black. `cur` holds the pixels of the current row
from 0 to `max a0 0`, `run` the make-up codes read so far of the current run, `run1` the first run of H. -/
structure FaxState where
  phase : FaxPhase
  ref : List Bool
  cur : List Bool
  col : Colour
  a0 : Int
  run : Nat
  run1 : Nat
  rows : Nat
  deriving DecidableEq, Repr

/-- The LogLuv state of R282: the completed byte planes of the row, the bytes of the current plane, and
whether a byte of the row has been read (R286). -/
structure LogLuvState where
  planes : List (List Byte)
  plane : List Byte
  begun : Bool
  deriving DecidableEq, Repr

/-- A component of a JPEG frame header (spec/47_jpeg.md R320). -/
structure JpegComp where
  (id h v tq : Nat)
  deriving DecidableEq, Repr

/-- A JPEG frame header (R320). -/
structure JpegFrame where
  (y x : Nat)
  comps : List JpegComp
  deriving DecidableEq, Repr

/-- A component of a JPEG scan header (R328). -/
structure JpegScanComp where
  (td ta : Nat)
  deriving DecidableEq, Repr

/-- The parser phase of R312. -/
inductive JpegPhase where
  /-- Expecting SOI. -/
  | soi
  /-- After SOI, before SOS (in a tables stream: before EOI). -/
  | header
  /-- Inside entropy-coded data. -/
  | entropy
  /-- At an expected restart point. -/
  | restart
  /-- After the scan, before EOI. -/
  | tail
  deriving DecidableEq, Repr

/-- The JPEG state of R312. `tables` is `T'`; `mcu` counts completed MCUs of the scan; `block` numbers the
next block of the current MCU; `zz` holds the coefficients of the current block decoded so far, in zig-zag
order; `ebuf` is the entropy bit buffer; `blocks` holds the finished blocks of 64 samples of the current MCU
row, in decoding order; `tablesOnly` marks a tables stream (R340). -/
structure JpegState where
  tablesOnly : Bool
  phase : JpegPhase
  tables : JpegTables
  frame : Option JpegFrame
  scan : List JpegScanComp
  preds : List Int
  mcu : Nat
  block : Nat
  zz : List Int
  ebuf : List Bool
  blocks : List (List Byte)
  deriving DecidableEq, Repr

/-- The codec state of the selected unit (R46); `idle` when no strip has been begun. -/
inductive CodecState where
  | idle
  | lzw (z : LzwState)
  | packBits
  | fax (f : FaxState)
  | logLuv (v : LogLuvState)
  | jpeg (j : JpegState)
  | deflate
  deriving DecidableEq, Repr

/-- The strip: `L`, `Lin` (R40), the bit cursor (spec/41_bitstream.md R130), the raw bytes the unit has
emitted, the terminator once it is reached (together the decoded stream of R42, log 3), and the codec state. -/
structure StripState where
  cfg : Latched
  lin : List Byte
  bc : Nat
  emitted : List Byte
  term : Option Terminator
  codec : CodecState
  deriving DecidableEq, Repr

/-- No strip: `L` at its reset values, `Lin` empty, codec state reset (R450). -/
def StripState.reset : StripState where
  cfg := Latched.reset
  lin := []
  bc := 0
  emitted := []
  term := none
  codec := .idle

/-! ### Host accesses -/

/-- The three address spaces of R60. -/
inductive Space where
  | reg
  | inBuf
  | outBuf
  deriving DecidableEq, Repr

/-- One host access: a read or write of `width` bits at byte offset `off` of a space. `data` is the value
written (for IN and OUT its low byte). -/
structure HostAccess where
  space : Space
  write : Bool
  width : Nat
  off : Nat
  data : Word
  deriving DecidableEq, Repr

/-- Which instructions a step performs (log 2): the next host access, or the next stream symbol of the
active strip, which is the inside of a DECODE. -/
inductive Focus where
  | host
  | unit
  deriving DecidableEq, Repr

/-- A byte space as (address, byte) cells with strictly rising addresses. An address that no cell lists holds
no byte written since reset, and reads as a free value (log 9). -/
abbrev Memory := List Host.Cell

/-- The state of the block. -/
structure State where
  regs : Regs
  latch : Option ErrorLatch
  sliceActive : Bool
  stripActive : Bool
  outValid : Bool
  tablesLoaded : Bool
  lzwOld : Bool
  outLen : Word
  pos : Word
  inMem : Memory
  outMem : Memory
  strip : StripState
  tables : JpegTables
  hostQueue : List HostAccess
  readBack : Option Word
  focus : Focus
  epoch : Nat
  draws : Nat
  deriving DecidableEq, Repr

/-- A step that stops because an address does not exist. -/
inductive Fault where
  /-- Raised by a host access at an offset outside its space: REG beyond 0xFFF, IN beyond MAX_IN_BYTES - 1, OUT
  beyond MAX_OUT_BYTES - 1 (R60, R63, R64, R431). Safe: the spec gives such an access no step. -/
  | noSuchAddress
  deriving DecidableEq, Repr

/-- A step that has no meaning. -/
inductive Refusal where
  /-- An instruction whose meaning is not written. No arm of `exec` answers it. Safe. -/
  | notModelled (mnemonic : String)
  /-- Raised by a host access of a width or alignment the space does not take (R62 to R64, R431). Safe: the
  spec marks such a run stuck. -/
  | accessNotAdmitted
  /-- Raised by a stream symbol run where no unit is about to read it, which no fetch does (log 21). Safe: the
  spec gives a symbol a meaning only where its unit reads it. -/
  | symbolOutOfPlace
  deriving DecidableEq, Repr

/-- The machine right after reset (R450): registers, latch, strip and tables at their reset values, IN and OUT
with no byte written; and the model's own fields at the values log 10 names. -/
def State.reset : State where
  regs := Regs.reset
  latch := none
  sliceActive := false
  stripActive := false
  outValid := false
  tablesLoaded := false
  lzwOld := false
  outLen := 0
  pos := 0
  inMem := []
  outMem := []
  strip := StripState.reset
  tables := JpegTables.reset
  hostQueue := []
  readBack := none
  focus := .host
  epoch := 0
  draws := 0

end Sys2Proof.Machine
end

