-- ==== Sys2Proof/Syntax.lean ====
section
/-! DEFINITION. The instructions: one constructor for each row of spec/opcode_table.json. The rows are the
command words (spec/30_encoding.md R80 to R82) and the symbols of the compressed streams (R83 to R90). -/

namespace Sys2Proof

/-- A command word or a stream symbol. An argument is a field of the row; the constructors of fixed code words
have none. -/
inductive Instr where
  /-- NOP (R101). -/
  | nop
  /-- RESET (R105). -/
  | reset
  /-- SLICE_BEGIN (R103). -/
  | sliceBegin
  /-- STRIP_BEGIN (R102). -/
  | stripBegin
  /-- DECODE (R104). -/
  | decode
  /-- LOAD_JPEG_TABLES (R106). -/
  | loadJpegTables
  /-- UPSAMPLE_YCBCR (R107). -/
  | upsampleYcbcr
  /-- STRIP_END (R108). -/
  | stripEnd
  /-- A reserved opcode, OPC = 8 + `low` (R109). -/
  | reservedOpc (low : BitVec 3)
  /-- A word with bits [31:4] = `r`, not all zero, and OPC = `o` (R421). -/
  | reservedBits (r : BitVec 28) (o : BitVec 4)
  /-- LZW code 0..255 (R158). -/
  | lzwLiteral (c : BitVec 8)
  /-- LZW code 256 (R156). -/
  | lzwClear
  /-- LZW code 257 (R162). -/
  | lzwEoi
  /-- LZW code of a defined entry (R159). -/
  | lzwDict (c : BitVec 12)
  /-- LZW code equal to nextFree (R160). -/
  | lzwKwkwk (c : BitVec 12)
  /-- LZW code above nextFree, or at least 258 with no previous code (R161). -/
  | lzwBad (c : BitVec 12)
  /-- PackBits control byte 0x00 + `n`: a literal of `n` + 1 bytes (R262). -/
  | pbLiteral (n : BitVec 7)
  /-- PackBits control byte 0x80 (R263). -/
  | pbNop
  /-- PackBits control byte 0x80 + `n`, `n` not 0: a repeat of 129 - `n` copies (R265). -/
  | pbRepeat (n : BitVec 7)
  /-- EOL, 000000000001 (R201). -/
  | faxEol
  /-- Pass mode (R225). -/
  | readP
  /-- Horizontal mode (R226). -/
  | readH
  /-- V0 (R227). -/
  | readV0
  /-- VR1 (R228). -/
  | readVr1
  /-- VR2 (R228). -/
  | readVr2
  /-- VR3 (R228). -/
  | readVr3
  /-- VL1 (R229). -/
  | readVl1
  /-- VL2 (R229). -/
  | readVl2
  /-- VL3 (R229). -/
  | readVl3
  /-- EXT with extension bits `e` (R231). -/
  | readExt (e : BitVec 3)
  /-- The Group 3 tag bit (R235). -/
  | g3Tag (t : BitVec 1)
  /-- SOI (R316). -/
  | jpegSoi
  /-- EOI (R316). -/
  | jpegEoi
  /-- DQT (R317). -/
  | jpegDqt
  /-- DHT (R318). -/
  | jpegDht
  /-- DRI (R319). -/
  | jpegDri
  /-- SOF0 (R320). -/
  | jpegSof0
  /-- SOF1 (R320). -/
  | jpegSof1
  /-- SOS (R328). -/
  | jpegSos
  /-- RST0 to RST7 (R334). -/
  | jpegRstm (m : BitVec 3)
  /-- APP0 to APP15 (R321). -/
  | jpegAppn (n : BitVec 4)
  /-- COM (R321). -/
  | jpegCom
  /-- SOF2 (R321). -/
  | jpegSof2
  /-- SOF3 (R321). -/
  | jpegSof3
  /-- SOF5 (R321). -/
  | jpegSof5
  /-- SOF6 (R321). -/
  | jpegSof6
  /-- SOF7 (R321). -/
  | jpegSof7
  /-- JPG (R321). -/
  | jpegJpg
  /-- SOF9 (R321). -/
  | jpegSof9
  /-- SOF10 (R321). -/
  | jpegSof10
  /-- SOF11 (R321). -/
  | jpegSof11
  /-- DAC (R321). -/
  | jpegDac
  /-- SOF13 (R321). -/
  | jpegSof13
  /-- SOF14 (R321). -/
  | jpegSof14
  /-- SOF15 (R321). -/
  | jpegSof15
  /-- DHP (R321). -/
  | jpegDhp
  /-- EXP (R321). -/
  | jpegExp
  /-- DNL (R321). -/
  | jpegDnl
  /-- TEM (R321). -/
  | jpegTem
  /-- A reserved marker 0x02..0xBF (R321). -/
  | jpegRes (c : BitVec 8)
  /-- A stuffed 0xFF data byte, `FF 00` (R138). -/
  | jpegStuff
  /-- A DC code word for category `t`, then its magnitude bits `v` (R330). -/
  | jpegDcSymbol (t : BitVec 8) (v : BitVec 16)
  /-- An AC code word for `rs`, then its magnitude bits `v` (R331). -/
  | jpegAcSymbol (rs : BitVec 8) (v : BitVec 16)
  /-- LogLuv control byte 0x80 + `n`: a run of `n` + 2 (R284). -/
  | logluvRun (n : BitVec 7)
  /-- LogLuv control byte `n`: a literal of `n` bytes (R284). -/
  | logluvLiteral (n : BitVec 7)
  /-- The zlib stream of a whole strip (R412). -/
  | zlibStream
  -- White terminating codes, runs 0 to 63 (R193).
  | mhWTerm0
  | mhWTerm1
  | mhWTerm2
  | mhWTerm3
  | mhWTerm4
  | mhWTerm5
  | mhWTerm6
  | mhWTerm7
  | mhWTerm8
  | mhWTerm9
  | mhWTerm10
  | mhWTerm11
  | mhWTerm12
  | mhWTerm13
  | mhWTerm14
  | mhWTerm15
  | mhWTerm16
  | mhWTerm17
  | mhWTerm18
  | mhWTerm19
  | mhWTerm20
  | mhWTerm21
  | mhWTerm22
  | mhWTerm23
  | mhWTerm24
  | mhWTerm25
  | mhWTerm26
  | mhWTerm27
  | mhWTerm28
  | mhWTerm29
  | mhWTerm30
  | mhWTerm31
  | mhWTerm32
  | mhWTerm33
  | mhWTerm34
  | mhWTerm35
  | mhWTerm36
  | mhWTerm37
  | mhWTerm38
  | mhWTerm39
  | mhWTerm40
  | mhWTerm41
  | mhWTerm42
  | mhWTerm43
  | mhWTerm44
  | mhWTerm45
  | mhWTerm46
  | mhWTerm47
  | mhWTerm48
  | mhWTerm49
  | mhWTerm50
  | mhWTerm51
  | mhWTerm52
  | mhWTerm53
  | mhWTerm54
  | mhWTerm55
  | mhWTerm56
  | mhWTerm57
  | mhWTerm58
  | mhWTerm59
  | mhWTerm60
  | mhWTerm61
  | mhWTerm62
  | mhWTerm63
  -- White make-up codes, runs 64 to 1728 (R194).
  | mhWMakeup64
  | mhWMakeup128
  | mhWMakeup192
  | mhWMakeup256
  | mhWMakeup320
  | mhWMakeup384
  | mhWMakeup448
  | mhWMakeup512
  | mhWMakeup576
  | mhWMakeup640
  | mhWMakeup704
  | mhWMakeup768
  | mhWMakeup832
  | mhWMakeup896
  | mhWMakeup960
  | mhWMakeup1024
  | mhWMakeup1088
  | mhWMakeup1152
  | mhWMakeup1216
  | mhWMakeup1280
  | mhWMakeup1344
  | mhWMakeup1408
  | mhWMakeup1472
  | mhWMakeup1536
  | mhWMakeup1600
  | mhWMakeup1664
  | mhWMakeup1728
  -- Black terminating codes, runs 0 to 63 (R195).
  | mhBTerm0
  | mhBTerm1
  | mhBTerm2
  | mhBTerm3
  | mhBTerm4
  | mhBTerm5
  | mhBTerm6
  | mhBTerm7
  | mhBTerm8
  | mhBTerm9
  | mhBTerm10
  | mhBTerm11
  | mhBTerm12
  | mhBTerm13
  | mhBTerm14
  | mhBTerm15
  | mhBTerm16
  | mhBTerm17
  | mhBTerm18
  | mhBTerm19
  | mhBTerm20
  | mhBTerm21
  | mhBTerm22
  | mhBTerm23
  | mhBTerm24
  | mhBTerm25
  | mhBTerm26
  | mhBTerm27
  | mhBTerm28
  | mhBTerm29
  | mhBTerm30
  | mhBTerm31
  | mhBTerm32
  | mhBTerm33
  | mhBTerm34
  | mhBTerm35
  | mhBTerm36
  | mhBTerm37
  | mhBTerm38
  | mhBTerm39
  | mhBTerm40
  | mhBTerm41
  | mhBTerm42
  | mhBTerm43
  | mhBTerm44
  | mhBTerm45
  | mhBTerm46
  | mhBTerm47
  | mhBTerm48
  | mhBTerm49
  | mhBTerm50
  | mhBTerm51
  | mhBTerm52
  | mhBTerm53
  | mhBTerm54
  | mhBTerm55
  | mhBTerm56
  | mhBTerm57
  | mhBTerm58
  | mhBTerm59
  | mhBTerm60
  | mhBTerm61
  | mhBTerm62
  | mhBTerm63
  -- Black make-up codes, runs 64 to 1728 (R195).
  | mhBMakeup64
  | mhBMakeup128
  | mhBMakeup192
  | mhBMakeup256
  | mhBMakeup320
  | mhBMakeup384
  | mhBMakeup448
  | mhBMakeup512
  | mhBMakeup576
  | mhBMakeup640
  | mhBMakeup704
  | mhBMakeup768
  | mhBMakeup832
  | mhBMakeup896
  | mhBMakeup960
  | mhBMakeup1024
  | mhBMakeup1088
  | mhBMakeup1152
  | mhBMakeup1216
  | mhBMakeup1280
  | mhBMakeup1344
  | mhBMakeup1408
  | mhBMakeup1472
  | mhBMakeup1536
  | mhBMakeup1600
  | mhBMakeup1664
  | mhBMakeup1728
  -- Extended make-up codes of both colours, runs 1792 to 2560 (R196).
  | mhExtMakeup1792
  | mhExtMakeup1856
  | mhExtMakeup1920
  | mhExtMakeup1984
  | mhExtMakeup2048
  | mhExtMakeup2112
  | mhExtMakeup2176
  | mhExtMakeup2240
  | mhExtMakeup2304
  | mhExtMakeup2368
  | mhExtMakeup2432
  | mhExtMakeup2496
  | mhExtMakeup2560
  deriving DecidableEq, Repr

end Sys2Proof
end

