-- ==== Sys2Proof/WellFormed.lean ====
section
/-! DEFINITION. Which instructions an encoding admits: the ranges of the rows of spec/opcode_table.json. -/

namespace Sys2Proof

/-- The operands are in the range of the instruction's row. A magnitude field has as many bits as its category
says, and none where the category is not legal (R330, R331). -/
def Instr.WellFormed : Instr → Bool
  | .nop => true
  | .reset => true
  | .sliceBegin => true
  | .stripBegin => true
  | .decode => true
  | .loadJpegTables => true
  | .upsampleYcbcr => true
  | .stripEnd => true
  | .reservedOpc _ => true
  | .reservedBits r _ => decide (r ≠ 0)
  | .lzwLiteral _ => true
  | .lzwClear => true
  | .lzwEoi => true
  | .lzwDict c => decide (258 ≤ c.toNat)
  | .lzwKwkwk c => decide (258 ≤ c.toNat)
  | .lzwBad c => decide (258 ≤ c.toNat)
  | .pbLiteral _ => true
  | .pbNop => true
  | .pbRepeat n => decide (n ≠ 0)
  | .faxEol => true
  | .readP => true
  | .readH => true
  | .readV0 => true
  | .readVr1 => true
  | .readVr2 => true
  | .readVr3 => true
  | .readVl1 => true
  | .readVl2 => true
  | .readVl3 => true
  | .readExt _ => true
  | .g3Tag _ => true
  | .jpegSoi => true
  | .jpegEoi => true
  | .jpegDqt => true
  | .jpegDht => true
  | .jpegDri => true
  | .jpegSof0 => true
  | .jpegSof1 => true
  | .jpegSos => true
  | .jpegRstm _ => true
  | .jpegAppn _ => true
  | .jpegCom => true
  | .jpegSof2 => true
  | .jpegSof3 => true
  | .jpegSof5 => true
  | .jpegSof6 => true
  | .jpegSof7 => true
  | .jpegJpg => true
  | .jpegSof9 => true
  | .jpegSof10 => true
  | .jpegSof11 => true
  | .jpegDac => true
  | .jpegSof13 => true
  | .jpegSof14 => true
  | .jpegSof15 => true
  | .jpegDhp => true
  | .jpegExp => true
  | .jpegDnl => true
  | .jpegTem => true
  | .jpegRes c => decide (2 ≤ c.toNat ∧ c.toNat ≤ 0xBF)
  | .jpegStuff => true
  | .jpegDcSymbol t v => decide (v.toNat < 2 ^ (if t.toNat ≤ 11 then t.toNat else 0))
  | .jpegAcSymbol rs v => decide (v.toNat < 2 ^ (if rs.toNat % 16 ≤ 10 then rs.toNat % 16 else 0))
  | .logluvRun _ => true
  | .logluvLiteral _ => true
  | .zlibStream => true
  | .mhWTerm0 => true
  | .mhWTerm1 => true
  | .mhWTerm2 => true
  | .mhWTerm3 => true
  | .mhWTerm4 => true
  | .mhWTerm5 => true
  | .mhWTerm6 => true
  | .mhWTerm7 => true
  | .mhWTerm8 => true
  | .mhWTerm9 => true
  | .mhWTerm10 => true
  | .mhWTerm11 => true
  | .mhWTerm12 => true
  | .mhWTerm13 => true
  | .mhWTerm14 => true
  | .mhWTerm15 => true
  | .mhWTerm16 => true
  | .mhWTerm17 => true
  | .mhWTerm18 => true
  | .mhWTerm19 => true
  | .mhWTerm20 => true
  | .mhWTerm21 => true
  | .mhWTerm22 => true
  | .mhWTerm23 => true
  | .mhWTerm24 => true
  | .mhWTerm25 => true
  | .mhWTerm26 => true
  | .mhWTerm27 => true
  | .mhWTerm28 => true
  | .mhWTerm29 => true
  | .mhWTerm30 => true
  | .mhWTerm31 => true
  | .mhWTerm32 => true
  | .mhWTerm33 => true
  | .mhWTerm34 => true
  | .mhWTerm35 => true
  | .mhWTerm36 => true
  | .mhWTerm37 => true
  | .mhWTerm38 => true
  | .mhWTerm39 => true
  | .mhWTerm40 => true
  | .mhWTerm41 => true
  | .mhWTerm42 => true
  | .mhWTerm43 => true
  | .mhWTerm44 => true
  | .mhWTerm45 => true
  | .mhWTerm46 => true
  | .mhWTerm47 => true
  | .mhWTerm48 => true
  | .mhWTerm49 => true
  | .mhWTerm50 => true
  | .mhWTerm51 => true
  | .mhWTerm52 => true
  | .mhWTerm53 => true
  | .mhWTerm54 => true
  | .mhWTerm55 => true
  | .mhWTerm56 => true
  | .mhWTerm57 => true
  | .mhWTerm58 => true
  | .mhWTerm59 => true
  | .mhWTerm60 => true
  | .mhWTerm61 => true
  | .mhWTerm62 => true
  | .mhWTerm63 => true
  | .mhWMakeup64 => true
  | .mhWMakeup128 => true
  | .mhWMakeup192 => true
  | .mhWMakeup256 => true
  | .mhWMakeup320 => true
  | .mhWMakeup384 => true
  | .mhWMakeup448 => true
  | .mhWMakeup512 => true
  | .mhWMakeup576 => true
  | .mhWMakeup640 => true
  | .mhWMakeup704 => true
  | .mhWMakeup768 => true
  | .mhWMakeup832 => true
  | .mhWMakeup896 => true
  | .mhWMakeup960 => true
  | .mhWMakeup1024 => true
  | .mhWMakeup1088 => true
  | .mhWMakeup1152 => true
  | .mhWMakeup1216 => true
  | .mhWMakeup1280 => true
  | .mhWMakeup1344 => true
  | .mhWMakeup1408 => true
  | .mhWMakeup1472 => true
  | .mhWMakeup1536 => true
  | .mhWMakeup1600 => true
  | .mhWMakeup1664 => true
  | .mhWMakeup1728 => true
  | .mhBTerm0 => true
  | .mhBTerm1 => true
  | .mhBTerm2 => true
  | .mhBTerm3 => true
  | .mhBTerm4 => true
  | .mhBTerm5 => true
  | .mhBTerm6 => true
  | .mhBTerm7 => true
  | .mhBTerm8 => true
  | .mhBTerm9 => true
  | .mhBTerm10 => true
  | .mhBTerm11 => true
  | .mhBTerm12 => true
  | .mhBTerm13 => true
  | .mhBTerm14 => true
  | .mhBTerm15 => true
  | .mhBTerm16 => true
  | .mhBTerm17 => true
  | .mhBTerm18 => true
  | .mhBTerm19 => true
  | .mhBTerm20 => true
  | .mhBTerm21 => true
  | .mhBTerm22 => true
  | .mhBTerm23 => true
  | .mhBTerm24 => true
  | .mhBTerm25 => true
  | .mhBTerm26 => true
  | .mhBTerm27 => true
  | .mhBTerm28 => true
  | .mhBTerm29 => true
  | .mhBTerm30 => true
  | .mhBTerm31 => true
  | .mhBTerm32 => true
  | .mhBTerm33 => true
  | .mhBTerm34 => true
  | .mhBTerm35 => true
  | .mhBTerm36 => true
  | .mhBTerm37 => true
  | .mhBTerm38 => true
  | .mhBTerm39 => true
  | .mhBTerm40 => true
  | .mhBTerm41 => true
  | .mhBTerm42 => true
  | .mhBTerm43 => true
  | .mhBTerm44 => true
  | .mhBTerm45 => true
  | .mhBTerm46 => true
  | .mhBTerm47 => true
  | .mhBTerm48 => true
  | .mhBTerm49 => true
  | .mhBTerm50 => true
  | .mhBTerm51 => true
  | .mhBTerm52 => true
  | .mhBTerm53 => true
  | .mhBTerm54 => true
  | .mhBTerm55 => true
  | .mhBTerm56 => true
  | .mhBTerm57 => true
  | .mhBTerm58 => true
  | .mhBTerm59 => true
  | .mhBTerm60 => true
  | .mhBTerm61 => true
  | .mhBTerm62 => true
  | .mhBTerm63 => true
  | .mhBMakeup64 => true
  | .mhBMakeup128 => true
  | .mhBMakeup192 => true
  | .mhBMakeup256 => true
  | .mhBMakeup320 => true
  | .mhBMakeup384 => true
  | .mhBMakeup448 => true
  | .mhBMakeup512 => true
  | .mhBMakeup576 => true
  | .mhBMakeup640 => true
  | .mhBMakeup704 => true
  | .mhBMakeup768 => true
  | .mhBMakeup832 => true
  | .mhBMakeup896 => true
  | .mhBMakeup960 => true
  | .mhBMakeup1024 => true
  | .mhBMakeup1088 => true
  | .mhBMakeup1152 => true
  | .mhBMakeup1216 => true
  | .mhBMakeup1280 => true
  | .mhBMakeup1344 => true
  | .mhBMakeup1408 => true
  | .mhBMakeup1472 => true
  | .mhBMakeup1536 => true
  | .mhBMakeup1600 => true
  | .mhBMakeup1664 => true
  | .mhBMakeup1728 => true
  | .mhExtMakeup1792 => true
  | .mhExtMakeup1856 => true
  | .mhExtMakeup1920 => true
  | .mhExtMakeup1984 => true
  | .mhExtMakeup2048 => true
  | .mhExtMakeup2112 => true
  | .mhExtMakeup2176 => true
  | .mhExtMakeup2240 => true
  | .mhExtMakeup2304 => true
  | .mhExtMakeup2368 => true
  | .mhExtMakeup2432 => true
  | .mhExtMakeup2496 => true
  | .mhExtMakeup2560 => true

end Sys2Proof
end

