-- ==== Sys2Proof/Decode.lean ====
section
/-! DEFINITION. Encodings: spec/30_encoding.md. `decode` reads one instruction of a given format from a list of
bits, the first bit first; `encode` writes it. What the format does not tell from its bits alone (the code
width, nextFree and prev of LZW, the colour of a fax run, the Huffman table in use) is an argument of `Fmt`,
which the fetch of Machine/Fetch.lean takes from the codec state (R91). -/

namespace Sys2Proof

open Machine (HuffTable)

/-! ### Bit strings -/

/-- The `n` bits of `v`, most significant first: `cw 4 0b0111` is the code word written `0111` in the spec. -/
def cw (n v : Nat) : List Bool :=
  (List.range n).map fun i => v.testBit (n - 1 - i)

/-- The number whose bits are given most significant first (R131). -/
def natOfBits (bits : List Bool) : Nat :=
  bits.foldl (fun v b => 2 * v + b.toNat) 0

/-- The number whose bits are given least significant first (R132). -/
def natOfBitsL : List Bool → Nat
  | [] => 0
  | b :: bs => b.toNat + 2 * natOfBitsL bs

/-! ### Formats and outcomes -/

/-- The formats of R80 and R83 to R90, with the context each needs. -/
inductive Fmt where
  /-- A 32-bit command word (R80). -/
  | cmd
  /-- An LZW code of `nbits` bits in the old or new variant (R83). -/
  | lzw (old : Bool) (nbits nextFree : Nat) (hasPrev : Bool)
  /-- A PackBits control byte (R84). -/
  | packBits
  /-- A run code of one colour (R85). -/
  | mhRun (black : Bool)
  /-- A Group 3 EOL, with everything before it skipped (R233). -/
  | eol
  /-- A READ mode code (R86). -/
  | readMode
  /-- The Group 3 tag bit (R235). -/
  | tag
  /-- A JPEG marker, `FF` and a code byte (R87). -/
  | marker
  /-- A stuffed byte of entropy-coded data (R138). -/
  | stuff
  /-- A DC symbol under a Huffman table (R88, R330). -/
  | dcSymbol (h : HuffTable)
  /-- An AC symbol under a Huffman table, as coefficient `k` (R88, R331). -/
  | acSymbol (h : HuffTable) (k : Nat)
  /-- A LogLuv RLE control byte (R89). -/
  | logLuv
  /-- A zlib stream (R90): the whole input is one symbol, so it takes no bits here. -/
  | zlib
  deriving DecidableEq, Repr

/-- What reading one symbol gives: the instruction and how many bits it took; bits that are no code word of
the format; or an input that ends before a code word is complete (R134). -/
inductive Decoded where
  | found (i : Instr) (used : Nat)
  | bad
  | short
  deriving DecidableEq, Repr

/-! ### Command words (R80 to R82) -/

/-- The command a CMD word names (R81, R82). Total: every word is a command, a reserved opcode or a word with
reserved bits set. -/
def decodeCmd (w : Word) : Instr :=
  if w.extractLsb' 4 28 ≠ 0 then .reservedBits (w.extractLsb' 4 28) (w.extractLsb' 0 4)
  else match (w.extractLsb' 0 4).toNat with
    | 0 => .nop
    | 1 => .reset
    | 2 => .sliceBegin
    | 3 => .stripBegin
    | 4 => .decode
    | 5 => .loadJpegTables
    | 6 => .upsampleYcbcr
    | 7 => .stripEnd
    | _ => .reservedOpc (w.extractLsb' 0 3)

/-- The CMD word of a command (R81); none for a stream symbol. -/
def encodeCmd : Instr → Option Word
  | .nop => some 0
  | .reset => some 1
  | .sliceBegin => some 2
  | .stripBegin => some 3
  | .decode => some 4
  | .loadJpegTables => some 5
  | .upsampleYcbcr => some 6
  | .stripEnd => some 7
  | .reservedOpc low => some ((1#29 ++ low : BitVec 32))
  | .reservedBits r o => some (r ++ o : BitVec 32)
  | _ => none

/-! ### LZW codes (R83) -/

/-- The symbol an LZW code value is (R156 to R162): 256 is Clear, 257 EOI, a code of at least 258 is bad when
no previous code exists. -/
def lzwSymbol (nextFree : Nat) (hasPrev : Bool) (c : Nat) : Instr :=
  if c < 256 then .lzwLiteral (BitVec.ofNat 8 c)
  else if c = 256 then .lzwClear
  else if c = 257 then .lzwEoi
  else if !hasPrev then .lzwBad (BitVec.ofNat 12 c)
  else if c < nextFree then .lzwDict (BitVec.ofNat 12 c)
  else if c = nextFree ∧ nextFree < 4096 then .lzwKwkwk (BitVec.ofNat 12 c)
  else .lzwBad (BitVec.ofNat 12 c)

/-- The code value of an LZW symbol. -/
def lzwCode : Instr → Option Nat
  | .lzwLiteral c => some c.toNat
  | .lzwClear => some 256
  | .lzwEoi => some 257
  | .lzwDict c => some c.toNat
  | .lzwKwkwk c => some c.toNat
  | .lzwBad c => some c.toNat
  | _ => none

/-! ### Fax code tables (R193 to R196, R201, R224)

Each row is a run length, its code word and its instruction. -/

/-- White terminating codes (R193). -/
def mhWhiteTerm : List (Nat × List Bool × Instr) := [
  (0, cw 8 0b00110101, .mhWTerm0), (1, cw 6 0b000111, .mhWTerm1),
  (2, cw 4 0b0111, .mhWTerm2), (3, cw 4 0b1000, .mhWTerm3),
  (4, cw 4 0b1011, .mhWTerm4), (5, cw 4 0b1100, .mhWTerm5),
  (6, cw 4 0b1110, .mhWTerm6), (7, cw 4 0b1111, .mhWTerm7),
  (8, cw 5 0b10011, .mhWTerm8), (9, cw 5 0b10100, .mhWTerm9),
  (10, cw 5 0b00111, .mhWTerm10), (11, cw 5 0b01000, .mhWTerm11),
  (12, cw 6 0b001000, .mhWTerm12), (13, cw 6 0b000011, .mhWTerm13),
  (14, cw 6 0b110100, .mhWTerm14), (15, cw 6 0b110101, .mhWTerm15),
  (16, cw 6 0b101010, .mhWTerm16), (17, cw 6 0b101011, .mhWTerm17),
  (18, cw 7 0b0100111, .mhWTerm18), (19, cw 7 0b0001100, .mhWTerm19),
  (20, cw 7 0b0001000, .mhWTerm20), (21, cw 7 0b0010111, .mhWTerm21),
  (22, cw 7 0b0000011, .mhWTerm22), (23, cw 7 0b0000100, .mhWTerm23),
  (24, cw 7 0b0101000, .mhWTerm24), (25, cw 7 0b0101011, .mhWTerm25),
  (26, cw 7 0b0010011, .mhWTerm26), (27, cw 7 0b0100100, .mhWTerm27),
  (28, cw 7 0b0011000, .mhWTerm28), (29, cw 8 0b00000010, .mhWTerm29),
  (30, cw 8 0b00000011, .mhWTerm30), (31, cw 8 0b00011010, .mhWTerm31),
  (32, cw 8 0b00011011, .mhWTerm32), (33, cw 8 0b00010010, .mhWTerm33),
  (34, cw 8 0b00010011, .mhWTerm34), (35, cw 8 0b00010100, .mhWTerm35),
  (36, cw 8 0b00010101, .mhWTerm36), (37, cw 8 0b00010110, .mhWTerm37),
  (38, cw 8 0b00010111, .mhWTerm38), (39, cw 8 0b00101000, .mhWTerm39),
  (40, cw 8 0b00101001, .mhWTerm40), (41, cw 8 0b00101010, .mhWTerm41),
  (42, cw 8 0b00101011, .mhWTerm42), (43, cw 8 0b00101100, .mhWTerm43),
  (44, cw 8 0b00101101, .mhWTerm44), (45, cw 8 0b00000100, .mhWTerm45),
  (46, cw 8 0b00000101, .mhWTerm46), (47, cw 8 0b00001010, .mhWTerm47),
  (48, cw 8 0b00001011, .mhWTerm48), (49, cw 8 0b01010010, .mhWTerm49),
  (50, cw 8 0b01010011, .mhWTerm50), (51, cw 8 0b01010100, .mhWTerm51),
  (52, cw 8 0b01010101, .mhWTerm52), (53, cw 8 0b00100100, .mhWTerm53),
  (54, cw 8 0b00100101, .mhWTerm54), (55, cw 8 0b01011000, .mhWTerm55),
  (56, cw 8 0b01011001, .mhWTerm56), (57, cw 8 0b01011010, .mhWTerm57),
  (58, cw 8 0b01011011, .mhWTerm58), (59, cw 8 0b01001010, .mhWTerm59),
  (60, cw 8 0b01001011, .mhWTerm60), (61, cw 8 0b00110010, .mhWTerm61),
  (62, cw 8 0b00110011, .mhWTerm62), (63, cw 8 0b00110100, .mhWTerm63) ]

/-- White make-up codes (R194). -/
def mhWhiteMakeup : List (Nat × List Bool × Instr) := [
  (64, cw 5 0b11011, .mhWMakeup64), (128, cw 5 0b10010, .mhWMakeup128),
  (192, cw 6 0b010111, .mhWMakeup192), (256, cw 7 0b0110111, .mhWMakeup256),
  (320, cw 8 0b00110110, .mhWMakeup320), (384, cw 8 0b00110111, .mhWMakeup384),
  (448, cw 8 0b01100100, .mhWMakeup448), (512, cw 8 0b01100101, .mhWMakeup512),
  (576, cw 8 0b01101000, .mhWMakeup576), (640, cw 8 0b01100111, .mhWMakeup640),
  (704, cw 9 0b011001100, .mhWMakeup704), (768, cw 9 0b011001101, .mhWMakeup768),
  (832, cw 9 0b011010010, .mhWMakeup832), (896, cw 9 0b011010011, .mhWMakeup896),
  (960, cw 9 0b011010100, .mhWMakeup960), (1024, cw 9 0b011010101, .mhWMakeup1024),
  (1088, cw 9 0b011010110, .mhWMakeup1088), (1152, cw 9 0b011010111, .mhWMakeup1152),
  (1216, cw 9 0b011011000, .mhWMakeup1216), (1280, cw 9 0b011011001, .mhWMakeup1280),
  (1344, cw 9 0b011011010, .mhWMakeup1344), (1408, cw 9 0b011011011, .mhWMakeup1408),
  (1472, cw 9 0b010011000, .mhWMakeup1472), (1536, cw 9 0b010011001, .mhWMakeup1536),
  (1600, cw 9 0b010011010, .mhWMakeup1600), (1664, cw 6 0b011000, .mhWMakeup1664),
  (1728, cw 9 0b010011011, .mhWMakeup1728) ]

/-- Black terminating codes (R195). -/
def mhBlackTerm : List (Nat × List Bool × Instr) := [
  (0, cw 10 0b0000110111, .mhBTerm0), (1, cw 3 0b010, .mhBTerm1),
  (2, cw 2 0b11, .mhBTerm2), (3, cw 2 0b10, .mhBTerm3),
  (4, cw 3 0b011, .mhBTerm4), (5, cw 4 0b0011, .mhBTerm5),
  (6, cw 4 0b0010, .mhBTerm6), (7, cw 5 0b00011, .mhBTerm7),
  (8, cw 6 0b000101, .mhBTerm8), (9, cw 6 0b000100, .mhBTerm9),
  (10, cw 7 0b0000100, .mhBTerm10), (11, cw 7 0b0000101, .mhBTerm11),
  (12, cw 7 0b0000111, .mhBTerm12), (13, cw 8 0b00000100, .mhBTerm13),
  (14, cw 8 0b00000111, .mhBTerm14), (15, cw 9 0b000011000, .mhBTerm15),
  (16, cw 10 0b0000010111, .mhBTerm16), (17, cw 10 0b0000011000, .mhBTerm17),
  (18, cw 10 0b0000001000, .mhBTerm18), (19, cw 11 0b00001100111, .mhBTerm19),
  (20, cw 11 0b00001101000, .mhBTerm20), (21, cw 11 0b00001101100, .mhBTerm21),
  (22, cw 11 0b00000110111, .mhBTerm22), (23, cw 11 0b00000101000, .mhBTerm23),
  (24, cw 11 0b00000010111, .mhBTerm24), (25, cw 11 0b00000011000, .mhBTerm25),
  (26, cw 12 0b000011001010, .mhBTerm26), (27, cw 12 0b000011001011, .mhBTerm27),
  (28, cw 12 0b000011001100, .mhBTerm28), (29, cw 12 0b000011001101, .mhBTerm29),
  (30, cw 12 0b000001101000, .mhBTerm30), (31, cw 12 0b000001101001, .mhBTerm31),
  (32, cw 12 0b000001101010, .mhBTerm32), (33, cw 12 0b000001101011, .mhBTerm33),
  (34, cw 12 0b000011010010, .mhBTerm34), (35, cw 12 0b000011010011, .mhBTerm35),
  (36, cw 12 0b000011010100, .mhBTerm36), (37, cw 12 0b000011010101, .mhBTerm37),
  (38, cw 12 0b000011010110, .mhBTerm38), (39, cw 12 0b000011010111, .mhBTerm39),
  (40, cw 12 0b000001101100, .mhBTerm40), (41, cw 12 0b000001101101, .mhBTerm41),
  (42, cw 12 0b000011011010, .mhBTerm42), (43, cw 12 0b000011011011, .mhBTerm43),
  (44, cw 12 0b000001010100, .mhBTerm44), (45, cw 12 0b000001010101, .mhBTerm45),
  (46, cw 12 0b000001010110, .mhBTerm46), (47, cw 12 0b000001010111, .mhBTerm47),
  (48, cw 12 0b000001100100, .mhBTerm48), (49, cw 12 0b000001100101, .mhBTerm49),
  (50, cw 12 0b000001010010, .mhBTerm50), (51, cw 12 0b000001010011, .mhBTerm51),
  (52, cw 12 0b000000100100, .mhBTerm52), (53, cw 12 0b000000110111, .mhBTerm53),
  (54, cw 12 0b000000111000, .mhBTerm54), (55, cw 12 0b000000100111, .mhBTerm55),
  (56, cw 12 0b000000101000, .mhBTerm56), (57, cw 12 0b000001011000, .mhBTerm57),
  (58, cw 12 0b000001011001, .mhBTerm58), (59, cw 12 0b000000101011, .mhBTerm59),
  (60, cw 12 0b000000101100, .mhBTerm60), (61, cw 12 0b000001011010, .mhBTerm61),
  (62, cw 12 0b000001100110, .mhBTerm62), (63, cw 12 0b000001100111, .mhBTerm63) ]

/-- Black make-up codes (R195). -/
def mhBlackMakeup : List (Nat × List Bool × Instr) := [
  (64, cw 10 0b0000001111, .mhBMakeup64), (128, cw 12 0b000011001000, .mhBMakeup128),
  (192, cw 12 0b000011001001, .mhBMakeup192), (256, cw 12 0b000001011011, .mhBMakeup256),
  (320, cw 12 0b000000110011, .mhBMakeup320), (384, cw 12 0b000000110100, .mhBMakeup384),
  (448, cw 12 0b000000110101, .mhBMakeup448), (512, cw 13 0b0000001101100, .mhBMakeup512),
  (576, cw 13 0b0000001101101, .mhBMakeup576), (640, cw 13 0b0000001001010, .mhBMakeup640),
  (704, cw 13 0b0000001001011, .mhBMakeup704), (768, cw 13 0b0000001001100, .mhBMakeup768),
  (832, cw 13 0b0000001001101, .mhBMakeup832), (896, cw 13 0b0000001110010, .mhBMakeup896),
  (960, cw 13 0b0000001110011, .mhBMakeup960), (1024, cw 13 0b0000001110100, .mhBMakeup1024),
  (1088, cw 13 0b0000001110101, .mhBMakeup1088), (1152, cw 13 0b0000001110110, .mhBMakeup1152),
  (1216, cw 13 0b0000001110111, .mhBMakeup1216), (1280, cw 13 0b0000001010010, .mhBMakeup1280),
  (1344, cw 13 0b0000001010011, .mhBMakeup1344), (1408, cw 13 0b0000001010100, .mhBMakeup1408),
  (1472, cw 13 0b0000001010101, .mhBMakeup1472), (1536, cw 13 0b0000001011010, .mhBMakeup1536),
  (1600, cw 13 0b0000001011011, .mhBMakeup1600), (1664, cw 13 0b0000001100100, .mhBMakeup1664),
  (1728, cw 13 0b0000001100101, .mhBMakeup1728) ]

/-- Extended make-up codes of both colours (R196). -/
def mhExtMakeup : List (Nat × List Bool × Instr) := [
  (1792, cw 11 0b00000001000, .mhExtMakeup1792), (1856, cw 11 0b00000001100, .mhExtMakeup1856),
  (1920, cw 11 0b00000001101, .mhExtMakeup1920), (1984, cw 12 0b000000010010, .mhExtMakeup1984),
  (2048, cw 12 0b000000010011, .mhExtMakeup2048), (2112, cw 12 0b000000010100, .mhExtMakeup2112),
  (2176, cw 12 0b000000010101, .mhExtMakeup2176), (2240, cw 12 0b000000010110, .mhExtMakeup2240),
  (2304, cw 12 0b000000010111, .mhExtMakeup2304), (2368, cw 12 0b000000011100, .mhExtMakeup2368),
  (2432, cw 12 0b000000011101, .mhExtMakeup2432), (2496, cw 12 0b000000011110, .mhExtMakeup2496),
  (2560, cw 12 0b000000011111, .mhExtMakeup2560) ]

/-- The code words of a run of one colour: terminating, make-up and extended make-up (R196). -/
def runCodes (black : Bool) : List (List Bool × Instr) :=
  ((if black then mhBlackTerm ++ mhBlackMakeup else mhWhiteTerm ++ mhWhiteMakeup) ++ mhExtMakeup).map (·.2)

/-- The READ mode codes (R224); EXT is its prefix and any three bits. -/
def modeCodes : List (List Bool × Instr) :=
  [ (cw 4 0b0001, .readP), (cw 3 0b001, .readH), (cw 1 0b1, .readV0),
    (cw 3 0b011, .readVr1), (cw 6 0b000011, .readVr2), (cw 7 0b0000011, .readVr3),
    (cw 3 0b010, .readVl1), (cw 6 0b000010, .readVl2), (cw 7 0b0000010, .readVl3) ] ++
  (List.range 8).map fun e => (cw 7 0b0000001 ++ cw 3 e, .readExt (BitVec.ofNat 3 e))

/-- `MatchCode` and `MatchMode` (R197, R224): take bits one at a time, keeping what is left of the code words
that begin with the bits taken, until one is complete or none is left. `n` counts the bits taken. -/
def matchCode (cands : List (List Bool × Instr)) (n : Nat) : List Bool → Decoded
  | [] => .short
  | b :: bs =>
    let next := cands.filterMap fun p =>
      match p.1 with
      | [] => none
      | c :: u => if c = b then some (u, p.2) else none
    match next.find? fun p => p.1.isEmpty with
    | some p => .found p.2 (n + 1)
    | none => if next.isEmpty then .bad else matchCode next (n + 1) bs

/-- `FindEOL` (R233): eleven or more 0 bits, then a 1; `z` counts the zeros before the next bit. -/
def findEol (z n : Nat) : List Bool → Decoded
  | [] => .short
  | false :: bs => findEol (z + 1) (n + 1) bs
  | true :: bs => if 11 ≤ z then .found .faxEol (n + 1) else findEol 0 (n + 1) bs

/-! ### JPEG markers (R87, R339) -/

/-- The instruction of a marker's code byte. None for 0x00 and 0xFF, which are no code byte, and for 0xF0 to
0xFD, which the table has no row for (log 15). -/
def markerInstr (m : Byte) : Option Instr :=
  match m.toNat with
  | 0x01 => some .jpegTem
  | 0xC0 => some .jpegSof0
  | 0xC1 => some .jpegSof1
  | 0xC2 => some .jpegSof2
  | 0xC3 => some .jpegSof3
  | 0xC4 => some .jpegDht
  | 0xC5 => some .jpegSof5
  | 0xC6 => some .jpegSof6
  | 0xC7 => some .jpegSof7
  | 0xC8 => some .jpegJpg
  | 0xC9 => some .jpegSof9
  | 0xCA => some .jpegSof10
  | 0xCB => some .jpegSof11
  | 0xCC => some .jpegDac
  | 0xCD => some .jpegSof13
  | 0xCE => some .jpegSof14
  | 0xCF => some .jpegSof15
  | 0xD8 => some .jpegSoi
  | 0xD9 => some .jpegEoi
  | 0xDA => some .jpegSos
  | 0xDB => some .jpegDqt
  | 0xDC => some .jpegDnl
  | 0xDD => some .jpegDri
  | 0xDE => some .jpegDhp
  | 0xDF => some .jpegExp
  | 0xFE => some .jpegCom
  | n =>
    if 2 ≤ n ∧ n ≤ 0xBF then some (.jpegRes m)
    else if 0xD0 ≤ n ∧ n ≤ 0xD7 then some (.jpegRstm (m.extractLsb' 0 3))
    else if 0xE0 ≤ n ∧ n ≤ 0xEF then some (.jpegAppn (m.extractLsb' 0 4))
    else none

/-- The code byte of a marker. -/
def markerCode : Instr → Option Byte
  | .jpegTem => some 0x01
  | .jpegSof0 => some 0xC0
  | .jpegSof1 => some 0xC1
  | .jpegSof2 => some 0xC2
  | .jpegSof3 => some 0xC3
  | .jpegDht => some 0xC4
  | .jpegSof5 => some 0xC5
  | .jpegSof6 => some 0xC6
  | .jpegSof7 => some 0xC7
  | .jpegJpg => some 0xC8
  | .jpegSof9 => some 0xC9
  | .jpegSof10 => some 0xCA
  | .jpegSof11 => some 0xCB
  | .jpegDac => some 0xCC
  | .jpegSof13 => some 0xCD
  | .jpegSof14 => some 0xCE
  | .jpegSof15 => some 0xCF
  | .jpegRstm m => some (0b11010#5 ++ m)
  | .jpegSoi => some 0xD8
  | .jpegEoi => some 0xD9
  | .jpegSos => some 0xDA
  | .jpegDqt => some 0xDB
  | .jpegDnl => some 0xDC
  | .jpegDri => some 0xDD
  | .jpegDhp => some 0xDE
  | .jpegExp => some 0xDF
  | .jpegAppn n => some (0xE#4 ++ n)
  | .jpegCom => some 0xFE
  | .jpegRes c => some c
  | _ => none

/-! ### Huffman tables and entropy-coded symbols (R88, R322 to R331) -/

/-- Code generation of R322, from length `l` on: (HUFFSIZE, HUFFCODE) of each code in order, or none where a
length's codes run out of its code space. -/
def huffGen : List Nat → Nat → Nat → Option (List (Nat × Nat))
  | [], _, _ => some []
  | n :: rest, l, code =>
    if 2 ^ l ≤ code + n then none
    else (huffGen rest (l + 1) (2 * (code + n))).map fun t =>
      ((List.range n).map fun j => (l, code + j)) ++ t

/-- (MINCODE, MAXCODE, VALPTR) of each length from the current one on (R323). MINCODE and VALPTR of a length
with no codes are never read and stand as 0. -/
def huffLimits : List Nat → Nat → Nat → List (Nat × Int × Nat)
  | [], _, _ => []
  | n :: rest, code, j =>
    (if n = 0 then (0, -1, 0) else (code, ((code + n - 1 : Nat) : Int), j)) ::
      huffLimits rest (2 * (code + n)) (j + n)

/-- The Huffman table builder (R322, R323); none is JPEG_BAD_TABLE. -/
def buildHuff (bits : List Nat) (huffval : List Byte) : Option HuffTable :=
  (huffGen bits 1 0).map fun _ =>
    { bits, huffval
      mincode := (huffLimits bits 0 0).map (·.1)
      maxcode := (huffLimits bits 0 0).map (·.2.1)
      valptr := (huffLimits bits 0 0).map (·.2.2) }

/-- What `DECODE(H)` gives: a HUFFVAL and the bits it took, sixteen bits that are no code word, or an end of
the bits at hand. -/
inductive HuffRead where
  | value (v : Byte) (used : Nat)
  | bad
  | short
  deriving DecidableEq, Repr

/-- `DECODE(H)` of R325 over (MINCODE, MAXCODE, VALPTR) of each length from the current one on. -/
def huffWalk (huffval : List Byte) : List (Nat × Int × Nat) → Nat → Nat → List Bool → HuffRead
  | [], _, _, _ => .bad
  | _ :: _, _, _, [] => .short
  | (mn, mx, vp) :: rest, code, used, b :: bs =>
    if mx < ((2 * code + b.toNat : Nat) : Int) then huffWalk huffval rest (2 * code + b.toNat) (used + 1) bs
    else .value (huffval.getD (vp + (2 * code + b.toNat) - mn) 0) (used + 1)

/-- `DECODE(H)` (R325). -/
def huffRead (h : HuffTable) (bits : List Bool) : HuffRead :=
  huffWalk h.huffval (h.mincode.zip (h.maxcode.zip h.valptr)) 0 0 bits

/-- The code word of a value under a table (R322): none where the table does not hold it. -/
def huffCode (h : HuffTable) (v : Byte) : Option (List Bool) := do
  let gen ← huffGen h.bits 1 0
  let p ← gen[h.huffval.idxOf v]?
  pure (cw p.1 p.2)

/-- How many magnitude bits follow a DC category: none where it is above 11, which R330 refuses first. -/
def dcMagBits (t : Byte) : Nat :=
  if t.toNat ≤ 11 then t.toNat else 0

/-- How many magnitude bits follow an AC symbol as coefficient `k`: none for EOB and ZRL, and none where the
size is above 10 or the run passes the end of the block, which R331 refuses first. -/
def acMagBits (rs : Byte) (k : Nat) : Nat :=
  if rs.toNat % 16 ≤ 10 ∧ k + rs.toNat / 16 ≤ 63 then rs.toNat % 16 else 0

/-! ### Decoding and encoding -/

/-- A control byte's instruction in PackBits (R84). -/
def packBitsSymbol (c : Byte) : Instr :=
  if c.toNat < 128 then .pbLiteral (c.extractLsb' 0 7)
  else if c.toNat = 128 then .pbNop
  else .pbRepeat (c.extractLsb' 0 7)

/-- A control byte's instruction in the LogLuv RLE (R89). -/
def logLuvSymbol (c : Byte) : Instr :=
  if c.toNat < 128 then .logluvLiteral (c.extractLsb' 0 7) else .logluvRun (c.extractLsb' 0 7)

/-- Read `n` bits and make an instruction of them, or be short of bits. -/
def fixedBits (n : Nat) (bits : List Bool) (f : List Bool → Decoded) : Decoded :=
  if bits.length < n then .short else f (bits.take n)

/-- Read one instruction of a format from the bits at hand. Total. -/
def decode (f : Fmt) (bits : List Bool) : Decoded :=
  match f with
  | .cmd => fixedBits 32 bits fun b => .found (decodeCmd (BitVec.ofNat 32 (natOfBits b))) 32
  | .lzw old n nextFree hasPrev => fixedBits n bits fun b =>
      .found (lzwSymbol nextFree hasPrev (if old then natOfBitsL b else natOfBits b)) n
  | .packBits => fixedBits 8 bits fun b => .found (packBitsSymbol (BitVec.ofNat 8 (natOfBits b))) 8
  | .mhRun black => matchCode (runCodes black) 0 bits
  | .eol => findEol 0 0 bits
  | .readMode => matchCode modeCodes 0 bits
  | .tag => fixedBits 1 bits fun b => .found (.g3Tag (BitVec.ofNat 1 (natOfBits b))) 1
  | .marker => fixedBits 16 bits fun b =>
      if natOfBits (b.take 8) = 0xFF then
        match markerInstr (BitVec.ofNat 8 (natOfBits (b.drop 8))) with
        | some i => .found i 16
        | none => .bad
      else .bad
  | .stuff => fixedBits 16 bits fun b => if natOfBits b = 0xFF00 then .found .jpegStuff 16 else .bad
  | .dcSymbol h =>
    match huffRead h bits with
    | .bad => .bad
    | .short => .short
    | .value t n =>
      if bits.length < n + dcMagBits t then .short
      else .found (.jpegDcSymbol t (BitVec.ofNat 16 (natOfBits ((bits.drop n).take (dcMagBits t)))))
        (n + dcMagBits t)
  | .acSymbol h k =>
    match huffRead h bits with
    | .bad => .bad
    | .short => .short
    | .value rs n =>
      if bits.length < n + acMagBits rs k then .short
      else .found (.jpegAcSymbol rs (BitVec.ofNat 16 (natOfBits ((bits.drop n).take (acMagBits rs k)))))
        (n + acMagBits rs k)
  | .logLuv => fixedBits 8 bits fun b => .found (logLuvSymbol (BitVec.ofNat 8 (natOfBits b))) 8
  | .zlib => .found .zlibStream 0

/-- The code word of an instruction in a table of code words. -/
def codeWord (codes : List (List Bool × Instr)) (i : Instr) : Option (List Bool) :=
  (codes.find? fun p => p.2 == i).map (·.1)

/-- The bits of an instruction in a format, first bit first; none where the format has no such symbol. -/
def encode (f : Fmt) (i : Instr) : Option (List Bool) :=
  match f with
  | .cmd => (encodeCmd i).map fun w => cw 32 w.toNat
  | .lzw old n _ _ => (lzwCode i).map fun c => if old then (cw n c).reverse else cw n c
  | .packBits =>
    match i with
    | .pbLiteral n => some (cw 8 n.toNat)
    | .pbNop => some (cw 8 0x80)
    | .pbRepeat n => some (cw 8 (0x80 + n.toNat))
    | _ => none
  | .mhRun black => codeWord (runCodes black) i
  | .eol => if i = .faxEol then some (cw 12 0b000000000001) else none
  | .readMode => codeWord modeCodes i
  | .tag =>
    match i with
    | .g3Tag t => some (cw 1 t.toNat)
    | _ => none
  | .marker => (markerCode i).map fun m => cw 8 0xFF ++ cw 8 m.toNat
  | .stuff => if i = .jpegStuff then some (cw 16 0xFF00) else none
  | .dcSymbol h =>
    match i with
    | .jpegDcSymbol t v => (huffCode h t).map fun u => u ++ cw (dcMagBits t) v.toNat
    | _ => none
  | .acSymbol h k =>
    match i with
    | .jpegAcSymbol rs v => (huffCode h rs).map fun u => u ++ cw (acMagBits rs k) v.toNat
    | _ => none
  | .logLuv =>
    match i with
    | .logluvLiteral n => some (cw 8 n.toNat)
    | .logluvRun n => some (cw 8 (0x80 + n.toNat))
    | _ => none
  | .zlib => if i = .zlibStream then some [] else none

/-- The table is one that the builder of R322 and R323 makes from sixteen lengths and its own values. -/
def huffTableOk (h : HuffTable) : Bool :=
  decide (h.bits.length = 16) && decide (h.huffval.length = h.bits.sum) &&
    decide (buildHuff h.bits h.huffval = some h)

/-- The instruction is a symbol of the format, in that context: what a well-formed stream may hold there. -/
def fits (f : Fmt) (i : Instr) : Bool :=
  i.WellFormed && (encode f i).isSome &&
  match f, i with
  | .lzw _ n nextFree hasPrev, i =>
    decide (9 ≤ n) && decide (n ≤ 12) &&
      match lzwCode i with
      | some c => decide (c < 2 ^ n) && decide (lzwSymbol nextFree hasPrev c = i)
      | none => false
  | .dcSymbol h, .jpegDcSymbol t v => huffTableOk h && decide (v.toNat < 2 ^ dcMagBits t)
  | .acSymbol h k, .jpegAcSymbol rs v => huffTableOk h && decide (v.toNat < 2 ^ acMagBits rs k)
  | .zlib, _ => true
  | _, _ => true

/-! ### The words of spec/opcode_table.json (log 13) -/

/-- The fax code word of `lo` to `hi` bits whose value is `w`, with its format: a white run before a black one, then
a mode code, then EOL. -/
def faxWord (lo hi w : Nat) : Option (Fmt × List Bool) :=
  let pick (f : Fmt) (codes : List (List Bool × Instr)) : Option (Fmt × List Bool) :=
    (codes.find? fun p => decide (lo ≤ p.1.length ∧ p.1.length ≤ hi ∧ natOfBits p.1 = w)).map fun p => (f, p.1)
  (pick (.mhRun false) (runCodes false)).or <| (pick (.mhRun true) (runCodes true)).or <|
    (pick .readMode modeCodes).or <| pick .eol [(cw 12 0b000000000001, .faxEol)]

/-- The format a word of the opcode table is read in, and its bits as the hardware stores them. The table gives
the code words of the streams no format of their own, and a word does not show its code word's length, so that
rows of different formats share words and a choice is needed. A word of 8 bits is a fax code word of 8 bits of that
value, else a shorter one, else a PackBits control byte. A word of 16 bits is a marker where its high byte,
which comes first, is `FF`, else a fax code word of 9 to 13 bits of that value, else an LZW code of the new variant
with nextFree = 259 and a previous code. -/
def tableFmt (nbits w : Nat) : Option (Fmt × List Bool) :=
  match nbits with
  | 32 => some (.cmd, cw 32 w)
  | 16 =>
    if w = 0xFF00 then some (.stuff, cw 16 w)
    else if 0xFF00 < w ∧ w < 0x10000 then some (.marker, cw 16 w)
    else (faxWord 9 13 w).or <|
      if w < 512 then some (.lzw false 9 259 true, cw 9 w)
      else if w < 4096 then some (.lzw false 12 259 true, cw 12 w)
      else none
  | 8 => (faxWord 8 8 w).or <| (faxWord 1 7 w).or <| some (.packBits, cw 8 w)
  | _ => none

/-- The instruction that a word of the opcode table decodes to. -/
def decodeTableWord (nbits w : Nat) : Option Instr :=
  match tableFmt nbits w with
  | none => none
  | some (f, bits) =>
    match decode f bits with
    | .found i _ => some i
    | _ => none

end Sys2Proof
end

