-- ==== Sys2Proof/Machine/Operands.lean ====
section
/-! DEFINITION. Operands: the register space by name and offset (spec/10_state.md R22, R23), the fields of the
registers (R24 to R38), the unit a configuration selects (spec/00_scope.md R4), and the bit and byte readers
over the strip input (spec/41_bitstream.md R130 to R139). -/

namespace Sys2Proof.Machine

open Sys2Proof

/-! ### RW registers -/

/-- The RW registers of R23. -/
inductive RegName where
  | codec | photometric | width | height | bps | spp
  | layout | predictor | t4opt | t6opt | yccSub | bpr
  | rowStart | rows | stripIndex | inLen | lumaRNum | lumaRDen
  | lumaGNum | lumaGDen | lumaBNum | lumaBDen | refbw0Num | refbw0Den
  | refbw1Num | refbw1Den | refbw2Num | refbw2Den | refbw3Num | refbw3Den
  | refbw4Num | refbw4Den | refbw5Num | refbw5Den
  deriving DecidableEq, Repr

/-- The offset of an RW register (R23). -/
def RegName.offset : RegName → Nat
  | .codec => 0x020
  | .photometric => 0x024
  | .width => 0x028
  | .height => 0x02C
  | .bps => 0x030
  | .spp => 0x034
  | .layout => 0x038
  | .predictor => 0x03C
  | .t4opt => 0x040
  | .t6opt => 0x044
  | .yccSub => 0x048
  | .bpr => 0x04C
  | .rowStart => 0x050
  | .rows => 0x054
  | .stripIndex => 0x058
  | .inLen => 0x05C
  | .lumaRNum => 0x060
  | .lumaRDen => 0x064
  | .lumaGNum => 0x068
  | .lumaGDen => 0x06C
  | .lumaBNum => 0x070
  | .lumaBDen => 0x074
  | .refbw0Num => 0x080
  | .refbw0Den => 0x084
  | .refbw1Num => 0x088
  | .refbw1Den => 0x08C
  | .refbw2Num => 0x090
  | .refbw2Den => 0x094
  | .refbw3Num => 0x098
  | .refbw3Den => 0x09C
  | .refbw4Num => 0x0A0
  | .refbw4Den => 0x0A4
  | .refbw5Num => 0x0A8
  | .refbw5Den => 0x0AC

/-- The RW register at an offset, or none at an RO, WO or reserved offset (R22, R23). -/
def RegName.ofOffset? : Nat → Option RegName
  | 0x020 => some .codec
  | 0x024 => some .photometric
  | 0x028 => some .width
  | 0x02C => some .height
  | 0x030 => some .bps
  | 0x034 => some .spp
  | 0x038 => some .layout
  | 0x03C => some .predictor
  | 0x040 => some .t4opt
  | 0x044 => some .t6opt
  | 0x048 => some .yccSub
  | 0x04C => some .bpr
  | 0x050 => some .rowStart
  | 0x054 => some .rows
  | 0x058 => some .stripIndex
  | 0x05C => some .inLen
  | 0x060 => some .lumaRNum
  | 0x064 => some .lumaRDen
  | 0x068 => some .lumaGNum
  | 0x06C => some .lumaGDen
  | 0x070 => some .lumaBNum
  | 0x074 => some .lumaBDen
  | 0x080 => some .refbw0Num
  | 0x084 => some .refbw0Den
  | 0x088 => some .refbw1Num
  | 0x08C => some .refbw1Den
  | 0x090 => some .refbw2Num
  | 0x094 => some .refbw2Den
  | 0x098 => some .refbw3Num
  | 0x09C => some .refbw3Den
  | 0x0A0 => some .refbw4Num
  | 0x0A4 => some .refbw4Den
  | 0x0A8 => some .refbw5Num
  | 0x0AC => some .refbw5Den
  | _ => none

/-- The bits of an RW register that are fields; the others read 0 and ignore writes (R22, R23). -/
def RegName.mask : RegName → Word
  | .codec => 0xFFFF
  | .photometric => 0xFFFF
  | .bps => 0x3F
  | .spp => 0xFFFF
  | .layout => 0x1F
  | .predictor => 0xFFFF
  | .yccSub => 0x377
  | _ => 0xFFFFFFFF

/-- The word an RW register holds. -/
def Regs.get (r : Regs) : RegName → Word
  | .codec => r.codec
  | .photometric => r.photometric
  | .width => r.width
  | .height => r.height
  | .bps => r.bps
  | .spp => r.spp
  | .layout => r.layout
  | .predictor => r.predictor
  | .t4opt => r.t4opt
  | .t6opt => r.t6opt
  | .yccSub => r.yccSub
  | .bpr => r.bpr
  | .rowStart => r.rowStart
  | .rows => r.rows
  | .stripIndex => r.stripIndex
  | .inLen => r.inLen
  | .lumaRNum => r.coef.lumaRNum
  | .lumaRDen => r.coef.lumaRDen
  | .lumaGNum => r.coef.lumaGNum
  | .lumaGDen => r.coef.lumaGDen
  | .lumaBNum => r.coef.lumaBNum
  | .lumaBDen => r.coef.lumaBDen
  | .refbw0Num => r.coef.refbw0Num
  | .refbw0Den => r.coef.refbw0Den
  | .refbw1Num => r.coef.refbw1Num
  | .refbw1Den => r.coef.refbw1Den
  | .refbw2Num => r.coef.refbw2Num
  | .refbw2Den => r.coef.refbw2Den
  | .refbw3Num => r.coef.refbw3Num
  | .refbw3Den => r.coef.refbw3Den
  | .refbw4Num => r.coef.refbw4Num
  | .refbw4Den => r.coef.refbw4Den
  | .refbw5Num => r.coef.refbw5Num
  | .refbw5Den => r.coef.refbw5Den

/-- `r` with the word of one RW register replaced. -/
def Regs.put (r : Regs) (n : RegName) (v : Word) : Regs :=
  match n with
  | .codec => { r with codec := v }
  | .photometric => { r with photometric := v }
  | .width => { r with width := v }
  | .height => { r with height := v }
  | .bps => { r with bps := v }
  | .spp => { r with spp := v }
  | .layout => { r with layout := v }
  | .predictor => { r with predictor := v }
  | .t4opt => { r with t4opt := v }
  | .t6opt => { r with t6opt := v }
  | .yccSub => { r with yccSub := v }
  | .bpr => { r with bpr := v }
  | .rowStart => { r with rowStart := v }
  | .rows => { r with rows := v }
  | .stripIndex => { r with stripIndex := v }
  | .inLen => { r with inLen := v }
  | .lumaRNum => { r with coef := { r.coef with lumaRNum := v } }
  | .lumaRDen => { r with coef := { r.coef with lumaRDen := v } }
  | .lumaGNum => { r with coef := { r.coef with lumaGNum := v } }
  | .lumaGDen => { r with coef := { r.coef with lumaGDen := v } }
  | .lumaBNum => { r with coef := { r.coef with lumaBNum := v } }
  | .lumaBDen => { r with coef := { r.coef with lumaBDen := v } }
  | .refbw0Num => { r with coef := { r.coef with refbw0Num := v } }
  | .refbw0Den => { r with coef := { r.coef with refbw0Den := v } }
  | .refbw1Num => { r with coef := { r.coef with refbw1Num := v } }
  | .refbw1Den => { r with coef := { r.coef with refbw1Den := v } }
  | .refbw2Num => { r with coef := { r.coef with refbw2Num := v } }
  | .refbw2Den => { r with coef := { r.coef with refbw2Den := v } }
  | .refbw3Num => { r with coef := { r.coef with refbw3Num := v } }
  | .refbw3Den => { r with coef := { r.coef with refbw3Den := v } }
  | .refbw4Num => { r with coef := { r.coef with refbw4Num := v } }
  | .refbw4Den => { r with coef := { r.coef with refbw4Den := v } }
  | .refbw5Num => { r with coef := { r.coef with refbw5Num := v } }
  | .refbw5Den => { r with coef := { r.coef with refbw5Den := v } }

/-- The value a register reads as: its fields, reserved bits 0 (R22). -/
def Regs.read (r : Regs) (n : RegName) : Word :=
  r.get n &&& n.mask

/-- Write a register: its fields are stored, its reserved bits ignored (R22, R421). -/
def Regs.write (r : Regs) (n : RegName) (v : Word) : Regs :=
  r.put n (v &&& n.mask)

/-! ### The latched configuration -/

/-- The copy of the latched registers that STRIP_BEGIN makes (R40); of LAYOUT, bits 0 to 3. -/
def Regs.latchAll (r : Regs) : Latched where
  codec := r.read .codec
  photometric := r.read .photometric
  width := r.read .width
  bps := r.read .bps
  spp := r.read .spp
  layout := r.read .layout &&& 0xF
  predictor := r.read .predictor
  t4opt := r.read .t4opt
  t6opt := r.read .t6opt
  bpr := r.read .bpr
  stripIndex := r.read .stripIndex
  inLen := r.read .inLen
  coef := r.coef

/-- LAYOUT.PLANAR (R33). -/
def Latched.planar (L : Latched) : Bool := L.layout.getLsbD 0
/-- LAYOUT.MM, the byte order of multi-byte samples: big-endian (R33). -/
def Latched.mm (L : Latched) : Bool := L.layout.getLsbD 1
/-- LAYOUT.FILL_LSB (R33). -/
def Latched.fillLsb (L : Latched) : Bool := L.layout.getLsbD 2
/-- LAYOUT.YCC2RGB (R33). -/
def Latched.ycc2rgb (L : Latched) : Bool := L.layout.getLsbD 3
/-- T4OPT bit 0, two-dimensional coding in use (R35). -/
def Latched.t4TwoD (L : Latched) : Bool := L.t4opt.getLsbD 0

/-- LAYOUT.UPS_RAW, read live (R33). -/
def Regs.upsRaw (r : Regs) : Bool := (r.read .layout).getLsbD 4
/-- YCC_SUB.HS (R36). -/
def Regs.hs (r : Regs) : Nat := ((r.read .yccSub).extractLsb' 0 3).toNat
/-- YCC_SUB.VS (R36). -/
def Regs.vs (r : Regs) : Nat := ((r.read .yccSub).extractLsb' 4 3).toNat
/-- YCC_SUB.POSN (R36). -/
def Regs.posn (r : Regs) : Nat := ((r.read .yccSub).extractLsb' 8 2).toNat

/-! ### Units -/

/-- The decoding units a strip can select (spec/00_scope.md R2, R4; spec/46_logluv.md R280). -/
inductive UnitKind where
  | mh | g3 | g4 | lzw | jpeg | deflate | packBits | logL16 | logLuv32 | logLuv24
  deriving DecidableEq, Repr

/-- The unit of a configuration: by CODEC, and for 34676 by PHOTOMETRIC = 32844, LogL (R4, R27, R280). -/
def Latched.unit? (L : Latched) : Option UnitKind :=
  match L.codec.toNat with
  | 2 => some .mh
  | 3 => some .g3
  | 4 => some .g4
  | 5 => some .lzw
  | 7 => some .jpeg
  | 8 => some .deflate
  | 32946 => some .deflate
  | 32773 => some .packBits
  | 34676 => if L.photometric.toNat = 32844 then some .logL16 else some .logLuv32
  | 34677 => some .logLuv24
  | _ => none

/-- The number of components a JPEG strip's frame must have (R310). -/
def Latched.nc (L : Latched) : Nat :=
  if L.planar then 1 else L.spp.toNat

/-- Whether the JPEG colour stage is enabled (R366). -/
def Latched.colourStage (L : Latched) : Bool :=
  L.ycc2rgb && decide (L.photometric.toNat = 6) && decide (L.nc = 3)

/-! ### Readers (R130 to R139) -/

/-- `Rev(b)`: the byte with its bits in the opposite order (R139). -/
def rev (b : Byte) : Byte := b.reverse

/-- The bit at cursor `i`, most significant bit of each byte first, or least significant first (R131, R132);
none when the reader is exhausted (R134). -/
def bitAt (lsb : Bool) (lin : List Byte) (i : Nat) : Option Bool :=
  lin[i / 8]?.map fun b => b.getLsbD (if lsb then i % 8 else 7 - i % 8)

/-- `PeekBits(n)` at cursor `i`: the next `n` bits, or those that remain (R135). -/
def peekBits (lsb : Bool) (lin : List Byte) : Nat → Nat → List Bool
  | 0, _ => []
  | n + 1, i =>
    match bitAt lsb lin i with
    | none => []
    | some b => b :: peekBits lsb lin n (i + 1)

/-- `Remaining()` (R130). -/
def StripState.remaining (st : StripState) : Nat :=
  8 * st.lin.length - st.bc

/-- `ByteAlign()` (R136). -/
def StripState.byteAlign (st : StripState) : StripState :=
  { st with bc := (st.bc + 7) / 8 * 8 }

/-- The bytes from the cursor on, for the byte reader of R137. -/
def StripState.bytes (st : StripState) : List Byte :=
  st.lin.drop (st.bc / 8)

/-- The cursor moved on by `n` bits. -/
def StripState.skip (st : StripState) (n : Nat) : StripState :=
  { st with bc := st.bc + n }

/-- `emit`, for a list of bytes (spec/00_scope.md R12). -/
def StripState.emit (st : StripState) (b : List Byte) : StripState :=
  { st with emitted := st.emitted ++ b }

/-- The stream ends with this terminator. -/
def StripState.stop (st : StripState) (t : Terminator) : StripState :=
  { st with term := some t }

/-- The stream ends with `Error(k)`. -/
def StripState.fail (st : StripState) (k : ErrKind) : StripState :=
  st.stop (.error k)

/-- Thing number `i` of four; a number above 3 names the last, and no caller passes one. -/
def Quad.get {α : Type} (q : Quad α) (i : Nat) : α :=
  match i with
  | 0 => q.t0
  | 1 => q.t1
  | 2 => q.t2
  | _ => q.t3

/-- The four things with number `i` replaced. -/
def Quad.put {α : Type} (q : Quad α) (i : Nat) (v : α) : Quad α :=
  match i with
  | 0 => { q with t0 := v }
  | 1 => { q with t1 := v }
  | 2 => { q with t2 := v }
  | _ => { q with t3 := v }

end Sys2Proof.Machine
end

