-- ==== Sys2Proof/Machine/Flags.lean ====
section
/-! DEFINITION. STATUS, the error codes of ERR_INFO (spec/10_state.md R25, R26; spec/60_exceptions.md R420), and
the read side of the register space (R22, R23). -/

namespace Sys2Proof.Machine

open Sys2Proof

/-- KIND of an error kind (R420). -/
def ErrKind.code : ErrKind → BitVec 8
  | .reservedBits => 1
  | .illegalCmd => 2
  | .noSlice => 3
  | .noStrip => 4
  | .stripActive => 5
  | .inLen => 16
  | .bpr => 17
  | .spp => 18
  | .bps => 19
  | .width => 20
  | .height => 21
  | .rowsRange => 22
  | .yccSub => 23
  | .yccCoef => 24
  | .codec => 32
  | .predictor => 33
  | .faxUncompressed => 34
  | .jpegMode => 35
  | .jpegPrecision => 36
  | .jpegMultiscan => 37
  | .jpegDnl => 38
  | .truncated => 48
  | .lzwBadCode => 49
  | .faxBadCode => 50
  | .faxBadRun => 51
  | .logluvRun => 52
  | .inflate => 53
  | .jpegNoSoi => 54
  | .jpegBadMarker => 55
  | .jpegBadSegment => 56
  | .jpegBadTable => 57
  | .jpegNoTable => 58
  | .jpegGeometry => 59
  | .jpegBadHuff => 60
  | .jpegBadData => 61
  | .jpegRestart => 62

/-- CLASS of an error kind (R420): 4 CommandError, 3 ConfigError, 2 UnsupportedFeature, 1 CodecError. -/
def ErrKind.cls : ErrKind → BitVec 8
  | .reservedBits | .illegalCmd | .noSlice | .noStrip | .stripActive => 4
  | .inLen | .bpr | .spp | .bps | .width | .height | .rowsRange | .yccSub | .yccCoef => 3
  | .codec | .predictor | .faxUncompressed | .jpegMode | .jpegPrecision | .jpegMultiscan | .jpegDnl => 2
  | .truncated | .lzwBadCode | .faxBadCode | .faxBadRun | .logluvRun | .inflate | .jpegNoSoi
  | .jpegBadMarker | .jpegBadSegment | .jpegBadTable | .jpegNoTable | .jpegGeometry | .jpegBadHuff
  | .jpegBadData | .jpegRestart => 1

/-- ERR, STATUS bit 0 (R45). -/
def State.err (s : State) : Bool := s.latch.isSome

/-- STATUS (R25). -/
def State.status (s : State) : Word :=
  (0#26 ++ BitVec.ofBool s.lzwOld ++ BitVec.ofBool s.tablesLoaded ++ BitVec.ofBool s.outValid ++
    BitVec.ofBool s.stripActive ++ BitVec.ofBool s.sliceActive ++ BitVec.ofBool s.err : BitVec 32)

/-- ERR_INFO: CLASS[7:0], KIND[15:8], both 0 while ERR = 0 (R26). -/
def State.errInfo (s : State) : Word :=
  match s.latch with
  | none => 0
  | some e => (0#16 ++ e.kind.code ++ e.kind.cls : BitVec 32)

/-- ERR_ROW, 0 while ERR = 0 (R26). -/
def State.errRow (s : State) : Word :=
  match s.latch with
  | none => 0
  | some e => e.row

/-- ERR_STRIP, 0 while ERR = 0 (R26). -/
def State.errStrip (s : State) : Word :=
  match s.latch with
  | none => 0
  | some e => e.strip

/-- The word a register read returns (R22 to R26): CMD and reserved offsets read 0. -/
def State.readReg (s : State) (off : Nat) : Word :=
  match off with
  | 0x004 => s.status
  | 0x008 => s.errInfo
  | 0x00C => s.errRow
  | 0x010 => s.errStrip
  | 0x014 => s.outLen
  | 0x018 => s.pos
  | _ =>
    match RegName.ofOffset? off with
    | some n => s.regs.read n
    | none => 0

/-- A register write other than to CMD (R22, R23, R65): an RW register stores the value's fields, an RO register
or a reserved offset ignores it. -/
def State.writeReg (s : State) (off : Nat) (v : Word) : State :=
  match RegName.ofOffset? off with
  | some n => { s with regs := s.regs.write n v }
  | none => s

end Sys2Proof.Machine
end

