-- ==== Sys2Proof/Machine/Ops.lean ====
section
/-! DEFINITION. The named operations over memory, the error latch (the block's exception entry, spec/60_exceptions.md
R424, and its return, R426), the admission of commands (spec/40_commands.md R100), the state resets that
commands share, host accesses other than CMD writes (spec/20_memory.md R62 to R65), and how a stream symbol's
meaning is applied to the unit that reads it. -/

namespace Sys2Proof.Machine

open Sys2Proof Host

/-! ### Memory -/

/-- The byte a cell lists for an address, or none. -/
def memGet : Memory → Nat → Option Byte
  | [], _ => none
  | (k, b) :: m, a => if k = a then some b else memGet m a

/-- Store a byte, keeping the addresses strictly rising. -/
def memSet : Memory → Nat → Byte → Memory
  | [], a, b => [(a, b)]
  | (k, c) :: m, a, b =>
    if a < k then (a, b) :: (k, c) :: m
    else if a = k then (a, b) :: m
    else (k, c) :: memSet m a b

/-- Store bytes at consecutive addresses. -/
def memWrite : Memory → Nat → List Byte → Memory
  | m, _, [] => m
  | m, a, b :: bs => memWrite (memSet m a b) (a + 1) bs

/-- The canonical form: addresses strictly rising, all below the size of the space. Every listed byte was
written, so no entry can equal what an unlisted address reads as (log 9). -/
def memWf (size : Nat) : Memory → Bool
  | [] => true
  | [(a, _)] => decide (a < size)
  | (a, _) :: (b, c) :: m => decide (a < b) && memWf size ((b, c) :: m)

/-- The byte IN[a] (R63): the byte last written, or any value since reset (R450). -/
def State.readIn (s : State) (a : Nat) : Byte :=
  (memGet s.inMem a).getD (Config.inFill s.epoch a)

/-- The byte OUT[a] (R64). -/
def State.readOut (s : State) (a : Nat) : Byte :=
  (memGet s.outMem a).getD (Config.outFill s.epoch a)

/-- IN[0..n). -/
def State.inBytes (s : State) (n : Nat) : List Byte :=
  (List.range n).map s.readIn

/-- OUT[0..length) is the given result, OUT_LEN its length, OUT_VALID = 1 (R104, R107). -/
def State.deliver (s : State) (b : List Byte) : State :=
  { s with
    outMem := memWrite s.outMem 0 b
    outLen := BitVec.ofNat 32 b.length
    outValid := true }

/-- OUT[0..n) holds any value, OUT_VALID = 0 (R64, R104, R107): free values, drawn anew for each failed
command (log 9). -/
def State.spoilOut (s : State) (n : Nat) : State :=
  { s with
    outMem := memWrite s.outMem 0 ((List.range n).map (Config.outDraw s.draws))
    outValid := false
    draws := s.draws + 1 }

/-! ### The error latch -/

/-- The error latch of R424, the block's trap entry: ERR, CLASS and KIND, ERR_ROW and ERR_STRIP are set,
STRIP_ACTIVE and OUT_VALID cleared, everything else kept. Only with ERR = 0: while an error is latched none can
be raised (R427). -/
def State.raise (s : State) (k : ErrKind) (row strip : Word) : State :=
  match s.latch with
  | some _ => s
  | none =>
    { s with latch := some { kind := k, row, strip }, stripActive := false, outValid := false }

/-- An error of DECODE that does not come from the stream: ERR_ROW = ROW_START, ERR_STRIP = L.STRIP_INDEX
(R111, R424). -/
def State.raiseDecode (s : State) (k : ErrKind) : State :=
  s.raise k (s.regs.read .rowStart) s.strip.cfg.stripIndex

/-- An error of DECODE from the stream: ERR_ROW = ROW_START + floor((k - POS) / L.BPR) mod 2^32, where `len` is
the number of stream bytes before the terminator (R111, R424). -/
def State.raiseStream (s : State) (k : ErrKind) (len : Nat) : State :=
  s.raise k
    (BitVec.ofNat 32 ((s.regs.read .rowStart).toNat + (len - s.pos.toNat) / s.strip.cfg.bpr.toNat))
    s.strip.cfg.stripIndex

/-- An error of any other command: ERR_ROW = 0, ERR_STRIP = STRIP_INDEX (R111, R424). -/
def State.raiseOther (s : State) (k : ErrKind) : State :=
  s.raise k 0 (s.regs.read .stripIndex)

/-- Clearing the latch (R426), the block's trap return: nothing else is restored. -/
def State.clearLatch (s : State) : State :=
  { s with latch := none }

/-- Step 3 of R100: with ERR = 1 the command does nothing (R425). -/
def State.unlessLatched (s : State) (f : State → State) : State :=
  if s.err then s else f s

/-! ### Resets that commands share -/

/-- `STRIP_ACTIVE <- 0; POS <- 0; LZW_OLD <- 0`, and L, Lin and the codec state reset (R103, R108). -/
def State.dropStrip (s : State) : State :=
  { s with stripActive := false, pos := 0, lzwOld := false, strip := StripState.reset }

/-- The first check that fails. A check is a condition that must hold and the error it raises. -/
def firstFailure : List (Bool × ErrKind) → Option ErrKind
  | [] => none
  | (ok, k) :: rest => if ok then firstFailure rest else some k

/-! ### Host accesses -/

/-- Whether a host access has a width and alignment its space admits (R62 to R64). -/
def HostAccess.admitted (a : HostAccess) : Bool :=
  match a.space with
  | .reg => decide (a.width = 32) && decide (a.off % 4 = 0)
  | .inBuf | .outBuf => decide (a.width = 8)

/-- Whether the offset lies in the space (R60). -/
def HostAccess.inSpace (P : Params) (a : HostAccess) : Bool :=
  match a.space with
  | .reg => decide (a.off < 0x1000)
  | .inBuf => decide (a.off < P.maxInBytes)
  | .outBuf => decide (a.off < P.maxOutBytes)

/-- An access that writes CMD (R24). -/
def HostAccess.isCommand (a : HostAccess) : Bool :=
  decide (a.space = .reg) && a.write && decide (a.width = 32) && decide (a.off = 0)

/-- The effect of an admitted access other than a CMD write (R63 to R65): reads return a value and change
nothing else; IN is locked while a strip is active; writes to OUT are ignored. -/
def State.access (s : State) (a : HostAccess) : State :=
  match a.space, a.write with
  | .reg, true => s.writeReg a.off a.data
  | .reg, false => { s with readBack := some (s.readReg a.off) }
  | .inBuf, true =>
    if s.stripActive then s else { s with inMem := memSet s.inMem a.off (a.data.extractLsb' 0 8) }
  | .inBuf, false => { s with readBack := some ((s.readIn a.off).setWidth 32) }
  | .outBuf, true => s
  | .outBuf, false => { s with readBack := some ((s.readOut a.off).setWidth 32) }

/-- A host access other than a CMD write (R62 to R64, R431). -/
def hostAccess (P : Params) (a : HostAccess) (s : State) : Outcome State Fault Refusal :=
  if !a.admitted then .refused .accessNotAdmitted
  else if !a.inSpace P then .fault .noSuchAddress
  else .next (s.access a)

/-! ### Stream symbols

A symbol's meaning acts on the strip: its own bits are consumed before it (log 22). It has a meaning only where
its unit reads it, before the stream's terminator (log 21). -/

/-- A symbol of the LZW unit. -/
def onLzw (s : State) (f : LzwState → StripState → StripState) : Outcome State Fault Refusal :=
  match s.strip.term, s.strip.codec with
  | none, .lzw z => .next { s with strip := f z s.strip }
  | _, _ => .refused .symbolOutOfPlace

/-- A symbol of the PackBits unit. -/
def onPackBits (s : State) (f : StripState → StripState) : Outcome State Fault Refusal :=
  match s.strip.term, s.strip.codec with
  | none, .packBits => .next { s with strip := f s.strip }
  | _, _ => .refused .symbolOutOfPlace

/-- A symbol of the fax units, where `here` says that it can stand in that place. -/
def onFax (s : State) (here : FaxState → Bool) (f : FaxState → StripState → StripState) :
    Outcome State Fault Refusal :=
  match s.strip.term, s.strip.codec with
  | none, .fax x => if here x then .next { s with strip := f x s.strip } else .refused .symbolOutOfPlace
  | _, _ => .refused .symbolOutOfPlace

/-- A symbol of the LogLuv unit. On a raw LogLuv24 strip (R285), where no control byte is read, it means what it means
on any other: the model's choice (log 38). -/
def onLogLuv (s : State) (f : LogLuvState → StripState → StripState) : Outcome State Fault Refusal :=
  match s.strip.term, s.strip.codec with
  | none, .logLuv v => .next { s with strip := f v s.strip }
  | _, _ => .refused .symbolOutOfPlace

/-- A symbol of the JPEG unit, where `here` says that it can stand in that place. -/
def onJpeg (s : State) (here : JpegState → Bool) (f : JpegState → StripState → StripState) :
    Outcome State Fault Refusal :=
  match s.strip.term, s.strip.codec with
  | none, .jpeg j => if here j then .next { s with strip := f j s.strip } else .refused .symbolOutOfPlace
  | _, _ => .refused .symbolOutOfPlace

/-- The deflate unit's one symbol. -/
def onDeflate (s : State) (f : StripState → StripState) : Outcome State Fault Refusal :=
  match s.strip.term, s.strip.codec with
  | none, .deflate => .next { s with strip := f s.strip }
  | _, _ => .refused .symbolOutOfPlace

end Sys2Proof.Machine
end

