-- ==== Sys2Proof/Machine/Fax.lean ====
section
/-! DEFINITION. The fax units: rows, runs and mode codes of spec/43_fax_mh.md R190 to R201 and
spec/44_fax_read.md R220 to R240. The run codes themselves are in Machine/FaxCodes.lean. -/

namespace Sys2Proof.Machine

open Sys2Proof Host

/-- The other colour. -/
def Colour.opposite : Colour → Colour
  | .white => .black
  | .black => .white

/-- A colour's pixel: black is `true` (R192). -/
def Colour.pixel : Colour → Bool
  | .white => false
  | .black => true

/-- W, the width of a row. -/
def Latched.w (L : Latched) : Nat := L.width.toNat

/-- `a0'` = max(a0, 0) (R222). -/
def FaxState.pos (f : FaxState) : Nat := f.a0.toNat

/-- The phase before each row (R200, R240). -/
def firstPhase (L : Latched) : FaxPhase :=
  if L.unit? = some .g3 then .seekEol else .rowStart

/-- The position at the start of a row: before pixel 0 for a two-dimensional row, else 0 (R191, R199, R222). -/
def startA0 (twoD : Bool) : Int := if twoD then -1 else 0

/-- The fax state at the start of a strip (R191, R221): reference line all white. -/
def FaxState.init (L : Latched) : FaxState where
  phase := firstPhase L
  ref := List.replicate L.w false
  cur := []
  col := .white
  a0 := startA0 (decide (L.unit? = some .g4))
  run := 0
  run1 := 0
  rows := 0

/-- The bytes of a row of pixels (R192): pixel x is bit 7 - x mod 8 of byte x div 8, padding bits 0. -/
def rowBytes (w : Nat) (row : List Bool) : List Byte :=
  (List.range ((w + 7) / 8)).map fun i =>
    BitVec.ofNat 8 (natOfBits ((List.range 8).map fun j => row.getD (8 * i + j) false))

/-- The pixel at a position of a line, white to its left (R223). -/
def pixelAt (line : List Bool) (i : Nat) : Bool := line.getD i false

/-- Position `i` is a changing element: its pixel differs from the one to its left, white before pixel 0
(R223). -/
def isChange (line : List Bool) (i : Nat) : Bool :=
  pixelAt line i != (if i = 0 then false else pixelAt line (i - 1))

/-- b1 (R223): the least changing element of the reference line of the opposite colour right of a0, or W. -/
def FaxState.b1 (f : FaxState) (w : Nat) : Nat :=
  ((List.range w).find? fun (i : Nat) =>
    decide (f.a0 < (i : Int)) && isChange f.ref i && (pixelAt f.ref i == f.col.opposite.pixel)).getD w

/-- b2 (R223): the least changing element of the reference line of either colour right of b1, or W. -/
def FaxState.b2 (f : FaxState) (w : Nat) : Nat :=
  ((List.range w).find? fun (i : Nat) => decide (f.b1 w < i) && isChange f.ref i).getD w

/-- Pixels [a0', p) of the current row take colour `c`, and a0 becomes `p`. -/
def FaxState.fill (f : FaxState) (c : Colour) (p : Nat) : FaxState :=
  { f with cur := f.cur ++ List.replicate (p - f.pos) c.pixel, a0 := p }

/-- The state after a complete row (R200, R240): the row is the next reference line. -/
def FaxState.nextRow (L : Latched) (f : FaxState) : FaxState where
  phase := firstPhase L
  ref := f.cur
  cur := []
  col := .white
  a0 := startA0 (decide (L.unit? = some .g4))
  run := 0
  run1 := 0
  rows := f.rows + 1

/-- Go on after a code: the row is emitted once a0 = W (R199, R232), and otherwise goes on. -/
def faxContinue (f : FaxState) (st : StripState) : StripState :=
  if (st.cfg.w : Int) ≤ f.a0 then
    { st.emit (rowBytes st.cfg.w f.cur) with codec := .fax (f.nextRow st.cfg) }
  else { st with codec := .fax f }

/-! ### Runs (R196 to R199, R226) -/

/-- The phases in which the next symbol is a run code: in a one-dimensional row or in mode H. -/
def FaxState.inRun (L : Latched) (f : FaxState) : Bool :=
  match f.phase with
  | .rowStart => decide (L.unit? ≠ some .g4)
  | .rowTest twoD => !twoD
  | .run1D | .hRun1 | .hRun2 => true
  | _ => false

/-- The colour of the run being read (R196, R199, R226): the second run of H has the other colour. -/
def FaxState.runColour (f : FaxState) : Colour :=
  if f.phase = .hRun2 then f.col.opposite else f.col

/-- A make-up code adds to the run (R196). -/
def makeupStep (n : Nat) (f : FaxState) (st : StripState) : StripState :=
  let phase := match f.phase with
    | .rowStart | .rowTest _ => .run1D
    | p => p
  { st with codec := .fax { f with run := f.run + n, phase } }

/-- A terminating code ends the run (R196). In a one-dimensional row its pixels are filled and the colour
changes (R199); the two runs of H are checked and filled together (R226). A run past the row's end is
FAX_BAD_RUN (R198). -/
def terminatingStep (n : Nat) (f : FaxState) (st : StripState) : StripState :=
  let run := f.run + n
  match f.phase with
  | .hRun1 => { st with codec := .fax { f with run := 0, run1 := run, phase := .hRun2 } }
  | .hRun2 =>
    if st.cfg.w < f.pos + f.run1 + run then st.fail .faxBadRun
    else
      let g := (f.fill f.col (f.pos + f.run1)).fill f.col.opposite (f.pos + f.run1 + run)
      faxContinue { g with run := 0, run1 := 0, phase := .mode } st
  | _ =>
    if st.cfg.w < f.pos + run then st.fail .faxBadRun
    else
      faxContinue { f.fill f.col (f.pos + run) with run := 0, col := f.col.opposite, phase := .run1D } st

/-- The places a code of colour `k` can stand in: where a run of that colour is read. -/
def runHere (k : Colour) (L : Latched) (f : FaxState) : Bool :=
  f.inRun L && decide (f.runColour = k)

/-- The meaning of a terminating code of a colour and run length (R193, R195, R196). -/
def terminating (k : Colour) (n : Nat) (s : State) : Outcome State Fault Refusal :=
  onFax s (runHere k s.strip.cfg) (terminatingStep n)

/-- The meaning of a make-up code of a colour (R194 to R196). -/
def makeup (k : Colour) (n : Nat) (s : State) : Outcome State Fault Refusal :=
  onFax s (runHere k s.strip.cfg) (makeupStep n)

/-- The meaning of an extended make-up code, the same for both colours (R196). -/
def extMakeup (n : Nat) (s : State) : Outcome State Fault Refusal :=
  onFax s (FaxState.inRun s.strip.cfg) (makeupStep n)

/-! ### Mode codes (R224 to R232) -/

/-- The places a mode code can stand in: in a two-dimensional row, or before one. -/
def modeHere (L : Latched) (f : FaxState) : Bool :=
  match f.phase with
  | .rowStart => decide (L.unit? = some .g4)
  | .rowTest twoD => twoD
  | .mode => true
  | _ => false

/-- A symbol that stands where a mode code is read. -/
def onMode (s : State) (f : FaxState → StripState → StripState) : Outcome State Fault Refusal :=
  onFax s (modeHere s.strip.cfg) fun x st => f { x with phase := .mode } st

/-- Pass mode (R225). -/
def passStep (f : FaxState) (st : StripState) : StripState :=
  faxContinue (f.fill f.col (f.b2 st.cfg.w)) st

/-- Horizontal mode (R226): two runs follow. -/
def horizontalStep (f : FaxState) (st : StripState) : StripState :=
  { st with codec := .fax { f with phase := .hRun1, run := 0, run1 := 0 } }

/-- Vertical modes (R227 to R230): a1 is b1 + k. -/
def verticalStep (k : Int) (f : FaxState) (st : StripState) : StripState :=
  let a1 : Int := (f.b1 st.cfg.w : Int) + k
  if a1 < (f.pos : Int) ∨ (st.cfg.w : Int) < a1 then st.fail .faxBadRun
  else faxContinue { f.fill f.col a1.toNat with col := f.col.opposite } st

/-- Extension (R231): 111 is uncompressed mode, which the block does not support. -/
def extensionStep (e : BitVec 3) (_f : FaxState) (st : StripState) : StripState :=
  if e = 0b111 then st.fail .faxUncompressed else st.fail .faxBadCode

/-- READ_P (R225). -/
def execReadP (s : State) : Outcome State Fault Refusal := onMode s passStep
/-- READ_H (R226). -/
def execReadH (s : State) : Outcome State Fault Refusal := onMode s horizontalStep
/-- READ_V0 (R227). -/
def execReadV0 (s : State) : Outcome State Fault Refusal := onMode s (verticalStep 0)
/-- READ_VR1 (R228). -/
def execReadVr1 (s : State) : Outcome State Fault Refusal := onMode s (verticalStep 1)
/-- READ_VR2 (R228). -/
def execReadVr2 (s : State) : Outcome State Fault Refusal := onMode s (verticalStep 2)
/-- READ_VR3 (R228). -/
def execReadVr3 (s : State) : Outcome State Fault Refusal := onMode s (verticalStep 3)
/-- READ_VL1 (R229). -/
def execReadVl1 (s : State) : Outcome State Fault Refusal := onMode s (verticalStep (-1))
/-- READ_VL2 (R229). -/
def execReadVl2 (s : State) : Outcome State Fault Refusal := onMode s (verticalStep (-2))
/-- READ_VL3 (R229). -/
def execReadVl3 (s : State) : Outcome State Fault Refusal := onMode s (verticalStep (-3))
/-- READ_EXT (R231). -/
def execReadExt (e : BitVec 3) (s : State) : Outcome State Fault Refusal := onMode s (extensionStep e)

/-! ### Group 3 framing (R233 to R236) -/

/-- A row of the given kind is next (R235). -/
def rowTestStep (twoD : Bool) (f : FaxState) (st : StripState) : StripState :=
  { st with codec := .fax { f with phase := .rowTest twoD, a0 := startA0 twoD } }

/-- EOL (R201, R233): before a Group 3 row it is the row's framing, and with T4OPT bit 0 a tag bit follows. Where
the end tests of R236 and R238 are made, its eleven zeros end the stream. Where a run or mode code is read it is no
code (R197, R224). -/
def eolStep (f : FaxState) (st : StripState) : StripState :=
  match f.phase with
  | .seekEol =>
    if st.cfg.t4TwoD then { st with codec := .fax { f with phase := .tag } } else rowTestStep false f st
  | .rowTest _ => st.stop .done
  | .rowStart => if st.cfg.unit? = some .g4 then st.stop .done else st.fail .faxBadCode
  | _ => st.fail .faxBadCode

/-- FAX_EOL (R201, R233, R235). A tag bit is never an EOL. -/
def execFaxEol (s : State) : Outcome State Fault Refusal :=
  onFax s (fun f => decide (f.phase ≠ .tag)) eolStep

/-- G3_TAG (R235): 1 is a one-dimensional row, 0 a two-dimensional one. -/
def execG3Tag (t : BitVec 1) (s : State) : Outcome State Fault Refusal :=
  onFax s (fun f => decide (f.phase = .tag)) (rowTestStep (decide (t = 0)))

/-! ### Configuration checks -/

/-- The configuration checks of R190. -/
def faxChecks (P : Params) (L : Latched) : List (Bool × ErrKind) :=
  [ (decide (L.bps.toNat = 1), .bps),
    (decide (L.spp.toNat = 1), .spp),
    (decide (1 ≤ L.w ∧ L.w ≤ P.maxWidth), .width),
    (decide (L.bpr.toNat = (L.w + 7) / 8), .bpr),
    (!(decide (L.unit? = some .g3) && L.t4opt.getLsbD 1), .faxUncompressed),
    (!(decide (L.unit? = some .g4) && L.t6opt.getLsbD 1), .faxUncompressed) ]

end Sys2Proof.Machine
end

