-- ==== Sys2Proof/Machine/FaxCodes.lean ====
section
/-! DEFINITION. The meanings of the fax run codes: spec/43_fax_mh.md R193 to R196. Written from the tables' rows, one
definition a row. -/

namespace Sys2Proof.Machine

open Sys2Proof Host

/-- White terminating code 0 (R193). -/
def execMhWTerm0 (s : State) : Outcome State Fault Refusal := terminating .white 0 s
/-- White terminating code 1 (R193). -/
def execMhWTerm1 (s : State) : Outcome State Fault Refusal := terminating .white 1 s
/-- White terminating code 2 (R193). -/
def execMhWTerm2 (s : State) : Outcome State Fault Refusal := terminating .white 2 s
/-- White terminating code 3 (R193). -/
def execMhWTerm3 (s : State) : Outcome State Fault Refusal := terminating .white 3 s
/-- White terminating code 4 (R193). -/
def execMhWTerm4 (s : State) : Outcome State Fault Refusal := terminating .white 4 s
/-- White terminating code 5 (R193). -/
def execMhWTerm5 (s : State) : Outcome State Fault Refusal := terminating .white 5 s
/-- White terminating code 6 (R193). -/
def execMhWTerm6 (s : State) : Outcome State Fault Refusal := terminating .white 6 s
/-- White terminating code 7 (R193). -/
def execMhWTerm7 (s : State) : Outcome State Fault Refusal := terminating .white 7 s
/-- White terminating code 8 (R193). -/
def execMhWTerm8 (s : State) : Outcome State Fault Refusal := terminating .white 8 s
/-- White terminating code 9 (R193). -/
def execMhWTerm9 (s : State) : Outcome State Fault Refusal := terminating .white 9 s
/-- White terminating code 10 (R193). -/
def execMhWTerm10 (s : State) : Outcome State Fault Refusal := terminating .white 10 s
/-- White terminating code 11 (R193). -/
def execMhWTerm11 (s : State) : Outcome State Fault Refusal := terminating .white 11 s
/-- White terminating code 12 (R193). -/
def execMhWTerm12 (s : State) : Outcome State Fault Refusal := terminating .white 12 s
/-- White terminating code 13 (R193). -/
def execMhWTerm13 (s : State) : Outcome State Fault Refusal := terminating .white 13 s
/-- White terminating code 14 (R193). -/
def execMhWTerm14 (s : State) : Outcome State Fault Refusal := terminating .white 14 s
/-- White terminating code 15 (R193). -/
def execMhWTerm15 (s : State) : Outcome State Fault Refusal := terminating .white 15 s
/-- White terminating code 16 (R193). -/
def execMhWTerm16 (s : State) : Outcome State Fault Refusal := terminating .white 16 s
/-- White terminating code 17 (R193). -/
def execMhWTerm17 (s : State) : Outcome State Fault Refusal := terminating .white 17 s
/-- White terminating code 18 (R193). -/
def execMhWTerm18 (s : State) : Outcome State Fault Refusal := terminating .white 18 s
/-- White terminating code 19 (R193). -/
def execMhWTerm19 (s : State) : Outcome State Fault Refusal := terminating .white 19 s
/-- White terminating code 20 (R193). -/
def execMhWTerm20 (s : State) : Outcome State Fault Refusal := terminating .white 20 s
/-- White terminating code 21 (R193). -/
def execMhWTerm21 (s : State) : Outcome State Fault Refusal := terminating .white 21 s
/-- White terminating code 22 (R193). -/
def execMhWTerm22 (s : State) : Outcome State Fault Refusal := terminating .white 22 s
/-- White terminating code 23 (R193). -/
def execMhWTerm23 (s : State) : Outcome State Fault Refusal := terminating .white 23 s
/-- White terminating code 24 (R193). -/
def execMhWTerm24 (s : State) : Outcome State Fault Refusal := terminating .white 24 s
/-- White terminating code 25 (R193). -/
def execMhWTerm25 (s : State) : Outcome State Fault Refusal := terminating .white 25 s
/-- White terminating code 26 (R193). -/
def execMhWTerm26 (s : State) : Outcome State Fault Refusal := terminating .white 26 s
/-- White terminating code 27 (R193). -/
def execMhWTerm27 (s : State) : Outcome State Fault Refusal := terminating .white 27 s
/-- White terminating code 28 (R193). -/
def execMhWTerm28 (s : State) : Outcome State Fault Refusal := terminating .white 28 s
/-- White terminating code 29 (R193). -/
def execMhWTerm29 (s : State) : Outcome State Fault Refusal := terminating .white 29 s
/-- White terminating code 30 (R193). -/
def execMhWTerm30 (s : State) : Outcome State Fault Refusal := terminating .white 30 s
/-- White terminating code 31 (R193). -/
def execMhWTerm31 (s : State) : Outcome State Fault Refusal := terminating .white 31 s
/-- White terminating code 32 (R193). -/
def execMhWTerm32 (s : State) : Outcome State Fault Refusal := terminating .white 32 s
/-- White terminating code 33 (R193). -/
def execMhWTerm33 (s : State) : Outcome State Fault Refusal := terminating .white 33 s
/-- White terminating code 34 (R193). -/
def execMhWTerm34 (s : State) : Outcome State Fault Refusal := terminating .white 34 s
/-- White terminating code 35 (R193). -/
def execMhWTerm35 (s : State) : Outcome State Fault Refusal := terminating .white 35 s
/-- White terminating code 36 (R193). -/
def execMhWTerm36 (s : State) : Outcome State Fault Refusal := terminating .white 36 s
/-- White terminating code 37 (R193). -/
def execMhWTerm37 (s : State) : Outcome State Fault Refusal := terminating .white 37 s
/-- White terminating code 38 (R193). -/
def execMhWTerm38 (s : State) : Outcome State Fault Refusal := terminating .white 38 s
/-- White terminating code 39 (R193). -/
def execMhWTerm39 (s : State) : Outcome State Fault Refusal := terminating .white 39 s
/-- White terminating code 40 (R193). -/
def execMhWTerm40 (s : State) : Outcome State Fault Refusal := terminating .white 40 s
/-- White terminating code 41 (R193). -/
def execMhWTerm41 (s : State) : Outcome State Fault Refusal := terminating .white 41 s
/-- White terminating code 42 (R193). -/
def execMhWTerm42 (s : State) : Outcome State Fault Refusal := terminating .white 42 s
/-- White terminating code 43 (R193). -/
def execMhWTerm43 (s : State) : Outcome State Fault Refusal := terminating .white 43 s
/-- White terminating code 44 (R193). -/
def execMhWTerm44 (s : State) : Outcome State Fault Refusal := terminating .white 44 s
/-- White terminating code 45 (R193). -/
def execMhWTerm45 (s : State) : Outcome State Fault Refusal := terminating .white 45 s
/-- White terminating code 46 (R193). -/
def execMhWTerm46 (s : State) : Outcome State Fault Refusal := terminating .white 46 s
/-- White terminating code 47 (R193). -/
def execMhWTerm47 (s : State) : Outcome State Fault Refusal := terminating .white 47 s
/-- White terminating code 48 (R193). -/
def execMhWTerm48 (s : State) : Outcome State Fault Refusal := terminating .white 48 s
/-- White terminating code 49 (R193). -/
def execMhWTerm49 (s : State) : Outcome State Fault Refusal := terminating .white 49 s
/-- White terminating code 50 (R193). -/
def execMhWTerm50 (s : State) : Outcome State Fault Refusal := terminating .white 50 s
/-- White terminating code 51 (R193). -/
def execMhWTerm51 (s : State) : Outcome State Fault Refusal := terminating .white 51 s
/-- White terminating code 52 (R193). -/
def execMhWTerm52 (s : State) : Outcome State Fault Refusal := terminating .white 52 s
/-- White terminating code 53 (R193). -/
def execMhWTerm53 (s : State) : Outcome State Fault Refusal := terminating .white 53 s
/-- White terminating code 54 (R193). -/
def execMhWTerm54 (s : State) : Outcome State Fault Refusal := terminating .white 54 s
/-- White terminating code 55 (R193). -/
def execMhWTerm55 (s : State) : Outcome State Fault Refusal := terminating .white 55 s
/-- White terminating code 56 (R193). -/
def execMhWTerm56 (s : State) : Outcome State Fault Refusal := terminating .white 56 s
/-- White terminating code 57 (R193). -/
def execMhWTerm57 (s : State) : Outcome State Fault Refusal := terminating .white 57 s
/-- White terminating code 58 (R193). -/
def execMhWTerm58 (s : State) : Outcome State Fault Refusal := terminating .white 58 s
/-- White terminating code 59 (R193). -/
def execMhWTerm59 (s : State) : Outcome State Fault Refusal := terminating .white 59 s
/-- White terminating code 60 (R193). -/
def execMhWTerm60 (s : State) : Outcome State Fault Refusal := terminating .white 60 s
/-- White terminating code 61 (R193). -/
def execMhWTerm61 (s : State) : Outcome State Fault Refusal := terminating .white 61 s
/-- White terminating code 62 (R193). -/
def execMhWTerm62 (s : State) : Outcome State Fault Refusal := terminating .white 62 s
/-- White terminating code 63 (R193). -/
def execMhWTerm63 (s : State) : Outcome State Fault Refusal := terminating .white 63 s
/-- White make-up code 64 (R194). -/
def execMhWMakeup64 (s : State) : Outcome State Fault Refusal := makeup .white 64 s
/-- White make-up code 128 (R194). -/
def execMhWMakeup128 (s : State) : Outcome State Fault Refusal := makeup .white 128 s
/-- White make-up code 192 (R194). -/
def execMhWMakeup192 (s : State) : Outcome State Fault Refusal := makeup .white 192 s
/-- White make-up code 256 (R194). -/
def execMhWMakeup256 (s : State) : Outcome State Fault Refusal := makeup .white 256 s
/-- White make-up code 320 (R194). -/
def execMhWMakeup320 (s : State) : Outcome State Fault Refusal := makeup .white 320 s
/-- White make-up code 384 (R194). -/
def execMhWMakeup384 (s : State) : Outcome State Fault Refusal := makeup .white 384 s
/-- White make-up code 448 (R194). -/
def execMhWMakeup448 (s : State) : Outcome State Fault Refusal := makeup .white 448 s
/-- White make-up code 512 (R194). -/
def execMhWMakeup512 (s : State) : Outcome State Fault Refusal := makeup .white 512 s
/-- White make-up code 576 (R194). -/
def execMhWMakeup576 (s : State) : Outcome State Fault Refusal := makeup .white 576 s
/-- White make-up code 640 (R194). -/
def execMhWMakeup640 (s : State) : Outcome State Fault Refusal := makeup .white 640 s
/-- White make-up code 704 (R194). -/
def execMhWMakeup704 (s : State) : Outcome State Fault Refusal := makeup .white 704 s
/-- White make-up code 768 (R194). -/
def execMhWMakeup768 (s : State) : Outcome State Fault Refusal := makeup .white 768 s
/-- White make-up code 832 (R194). -/
def execMhWMakeup832 (s : State) : Outcome State Fault Refusal := makeup .white 832 s
/-- White make-up code 896 (R194). -/
def execMhWMakeup896 (s : State) : Outcome State Fault Refusal := makeup .white 896 s
/-- White make-up code 960 (R194). -/
def execMhWMakeup960 (s : State) : Outcome State Fault Refusal := makeup .white 960 s
/-- White make-up code 1024 (R194). -/
def execMhWMakeup1024 (s : State) : Outcome State Fault Refusal := makeup .white 1024 s
/-- White make-up code 1088 (R194). -/
def execMhWMakeup1088 (s : State) : Outcome State Fault Refusal := makeup .white 1088 s
/-- White make-up code 1152 (R194). -/
def execMhWMakeup1152 (s : State) : Outcome State Fault Refusal := makeup .white 1152 s
/-- White make-up code 1216 (R194). -/
def execMhWMakeup1216 (s : State) : Outcome State Fault Refusal := makeup .white 1216 s
/-- White make-up code 1280 (R194). -/
def execMhWMakeup1280 (s : State) : Outcome State Fault Refusal := makeup .white 1280 s
/-- White make-up code 1344 (R194). -/
def execMhWMakeup1344 (s : State) : Outcome State Fault Refusal := makeup .white 1344 s
/-- White make-up code 1408 (R194). -/
def execMhWMakeup1408 (s : State) : Outcome State Fault Refusal := makeup .white 1408 s
/-- White make-up code 1472 (R194). -/
def execMhWMakeup1472 (s : State) : Outcome State Fault Refusal := makeup .white 1472 s
/-- White make-up code 1536 (R194). -/
def execMhWMakeup1536 (s : State) : Outcome State Fault Refusal := makeup .white 1536 s
/-- White make-up code 1600 (R194). -/
def execMhWMakeup1600 (s : State) : Outcome State Fault Refusal := makeup .white 1600 s
/-- White make-up code 1664 (R194). -/
def execMhWMakeup1664 (s : State) : Outcome State Fault Refusal := makeup .white 1664 s
/-- White make-up code 1728 (R194). -/
def execMhWMakeup1728 (s : State) : Outcome State Fault Refusal := makeup .white 1728 s
/-- Black terminating code 0 (R195). -/
def execMhBTerm0 (s : State) : Outcome State Fault Refusal := terminating .black 0 s
/-- Black terminating code 1 (R195). -/
def execMhBTerm1 (s : State) : Outcome State Fault Refusal := terminating .black 1 s
/-- Black terminating code 2 (R195). -/
def execMhBTerm2 (s : State) : Outcome State Fault Refusal := terminating .black 2 s
/-- Black terminating code 3 (R195). -/
def execMhBTerm3 (s : State) : Outcome State Fault Refusal := terminating .black 3 s
/-- Black terminating code 4 (R195). -/
def execMhBTerm4 (s : State) : Outcome State Fault Refusal := terminating .black 4 s
/-- Black terminating code 5 (R195). -/
def execMhBTerm5 (s : State) : Outcome State Fault Refusal := terminating .black 5 s
/-- Black terminating code 6 (R195). -/
def execMhBTerm6 (s : State) : Outcome State Fault Refusal := terminating .black 6 s
/-- Black terminating code 7 (R195). -/
def execMhBTerm7 (s : State) : Outcome State Fault Refusal := terminating .black 7 s
/-- Black terminating code 8 (R195). -/
def execMhBTerm8 (s : State) : Outcome State Fault Refusal := terminating .black 8 s
/-- Black terminating code 9 (R195). -/
def execMhBTerm9 (s : State) : Outcome State Fault Refusal := terminating .black 9 s
/-- Black terminating code 10 (R195). -/
def execMhBTerm10 (s : State) : Outcome State Fault Refusal := terminating .black 10 s
/-- Black terminating code 11 (R195). -/
def execMhBTerm11 (s : State) : Outcome State Fault Refusal := terminating .black 11 s
/-- Black terminating code 12 (R195). -/
def execMhBTerm12 (s : State) : Outcome State Fault Refusal := terminating .black 12 s
/-- Black terminating code 13 (R195). -/
def execMhBTerm13 (s : State) : Outcome State Fault Refusal := terminating .black 13 s
/-- Black terminating code 14 (R195). -/
def execMhBTerm14 (s : State) : Outcome State Fault Refusal := terminating .black 14 s
/-- Black terminating code 15 (R195). -/
def execMhBTerm15 (s : State) : Outcome State Fault Refusal := terminating .black 15 s
/-- Black terminating code 16 (R195). -/
def execMhBTerm16 (s : State) : Outcome State Fault Refusal := terminating .black 16 s
/-- Black terminating code 17 (R195). -/
def execMhBTerm17 (s : State) : Outcome State Fault Refusal := terminating .black 17 s
/-- Black terminating code 18 (R195). -/
def execMhBTerm18 (s : State) : Outcome State Fault Refusal := terminating .black 18 s
/-- Black terminating code 19 (R195). -/
def execMhBTerm19 (s : State) : Outcome State Fault Refusal := terminating .black 19 s
/-- Black terminating code 20 (R195). -/
def execMhBTerm20 (s : State) : Outcome State Fault Refusal := terminating .black 20 s
/-- Black terminating code 21 (R195). -/
def execMhBTerm21 (s : State) : Outcome State Fault Refusal := terminating .black 21 s
/-- Black terminating code 22 (R195). -/
def execMhBTerm22 (s : State) : Outcome State Fault Refusal := terminating .black 22 s
/-- Black terminating code 23 (R195). -/
def execMhBTerm23 (s : State) : Outcome State Fault Refusal := terminating .black 23 s
/-- Black terminating code 24 (R195). -/
def execMhBTerm24 (s : State) : Outcome State Fault Refusal := terminating .black 24 s
/-- Black terminating code 25 (R195). -/
def execMhBTerm25 (s : State) : Outcome State Fault Refusal := terminating .black 25 s
/-- Black terminating code 26 (R195). -/
def execMhBTerm26 (s : State) : Outcome State Fault Refusal := terminating .black 26 s
/-- Black terminating code 27 (R195). -/
def execMhBTerm27 (s : State) : Outcome State Fault Refusal := terminating .black 27 s
/-- Black terminating code 28 (R195). -/
def execMhBTerm28 (s : State) : Outcome State Fault Refusal := terminating .black 28 s
/-- Black terminating code 29 (R195). -/
def execMhBTerm29 (s : State) : Outcome State Fault Refusal := terminating .black 29 s
/-- Black terminating code 30 (R195). -/
def execMhBTerm30 (s : State) : Outcome State Fault Refusal := terminating .black 30 s
/-- Black terminating code 31 (R195). -/
def execMhBTerm31 (s : State) : Outcome State Fault Refusal := terminating .black 31 s
/-- Black terminating code 32 (R195). -/
def execMhBTerm32 (s : State) : Outcome State Fault Refusal := terminating .black 32 s
/-- Black terminating code 33 (R195). -/
def execMhBTerm33 (s : State) : Outcome State Fault Refusal := terminating .black 33 s
/-- Black terminating code 34 (R195). -/
def execMhBTerm34 (s : State) : Outcome State Fault Refusal := terminating .black 34 s
/-- Black terminating code 35 (R195). -/
def execMhBTerm35 (s : State) : Outcome State Fault Refusal := terminating .black 35 s
/-- Black terminating code 36 (R195). -/
def execMhBTerm36 (s : State) : Outcome State Fault Refusal := terminating .black 36 s
/-- Black terminating code 37 (R195). -/
def execMhBTerm37 (s : State) : Outcome State Fault Refusal := terminating .black 37 s
/-- Black terminating code 38 (R195). -/
def execMhBTerm38 (s : State) : Outcome State Fault Refusal := terminating .black 38 s
/-- Black terminating code 39 (R195). -/
def execMhBTerm39 (s : State) : Outcome State Fault Refusal := terminating .black 39 s
/-- Black terminating code 40 (R195). -/
def execMhBTerm40 (s : State) : Outcome State Fault Refusal := terminating .black 40 s
/-- Black terminating code 41 (R195). -/
def execMhBTerm41 (s : State) : Outcome State Fault Refusal := terminating .black 41 s
/-- Black terminating code 42 (R195). -/
def execMhBTerm42 (s : State) : Outcome State Fault Refusal := terminating .black 42 s
/-- Black terminating code 43 (R195). -/
def execMhBTerm43 (s : State) : Outcome State Fault Refusal := terminating .black 43 s
/-- Black terminating code 44 (R195). -/
def execMhBTerm44 (s : State) : Outcome State Fault Refusal := terminating .black 44 s
/-- Black terminating code 45 (R195). -/
def execMhBTerm45 (s : State) : Outcome State Fault Refusal := terminating .black 45 s
/-- Black terminating code 46 (R195). -/
def execMhBTerm46 (s : State) : Outcome State Fault Refusal := terminating .black 46 s
/-- Black terminating code 47 (R195). -/
def execMhBTerm47 (s : State) : Outcome State Fault Refusal := terminating .black 47 s
/-- Black terminating code 48 (R195). -/
def execMhBTerm48 (s : State) : Outcome State Fault Refusal := terminating .black 48 s
/-- Black terminating code 49 (R195). -/
def execMhBTerm49 (s : State) : Outcome State Fault Refusal := terminating .black 49 s
/-- Black terminating code 50 (R195). -/
def execMhBTerm50 (s : State) : Outcome State Fault Refusal := terminating .black 50 s
/-- Black terminating code 51 (R195). -/
def execMhBTerm51 (s : State) : Outcome State Fault Refusal := terminating .black 51 s
/-- Black terminating code 52 (R195). -/
def execMhBTerm52 (s : State) : Outcome State Fault Refusal := terminating .black 52 s
/-- Black terminating code 53 (R195). -/
def execMhBTerm53 (s : State) : Outcome State Fault Refusal := terminating .black 53 s
/-- Black terminating code 54 (R195). -/
def execMhBTerm54 (s : State) : Outcome State Fault Refusal := terminating .black 54 s
/-- Black terminating code 55 (R195). -/
def execMhBTerm55 (s : State) : Outcome State Fault Refusal := terminating .black 55 s
/-- Black terminating code 56 (R195). -/
def execMhBTerm56 (s : State) : Outcome State Fault Refusal := terminating .black 56 s
/-- Black terminating code 57 (R195). -/
def execMhBTerm57 (s : State) : Outcome State Fault Refusal := terminating .black 57 s
/-- Black terminating code 58 (R195). -/
def execMhBTerm58 (s : State) : Outcome State Fault Refusal := terminating .black 58 s
/-- Black terminating code 59 (R195). -/
def execMhBTerm59 (s : State) : Outcome State Fault Refusal := terminating .black 59 s
/-- Black terminating code 60 (R195). -/
def execMhBTerm60 (s : State) : Outcome State Fault Refusal := terminating .black 60 s
/-- Black terminating code 61 (R195). -/
def execMhBTerm61 (s : State) : Outcome State Fault Refusal := terminating .black 61 s
/-- Black terminating code 62 (R195). -/
def execMhBTerm62 (s : State) : Outcome State Fault Refusal := terminating .black 62 s
/-- Black terminating code 63 (R195). -/
def execMhBTerm63 (s : State) : Outcome State Fault Refusal := terminating .black 63 s
/-- Black make-up code 64 (R195). -/
def execMhBMakeup64 (s : State) : Outcome State Fault Refusal := makeup .black 64 s
/-- Black make-up code 128 (R195). -/
def execMhBMakeup128 (s : State) : Outcome State Fault Refusal := makeup .black 128 s
/-- Black make-up code 192 (R195). -/
def execMhBMakeup192 (s : State) : Outcome State Fault Refusal := makeup .black 192 s
/-- Black make-up code 256 (R195). -/
def execMhBMakeup256 (s : State) : Outcome State Fault Refusal := makeup .black 256 s
/-- Black make-up code 320 (R195). -/
def execMhBMakeup320 (s : State) : Outcome State Fault Refusal := makeup .black 320 s
/-- Black make-up code 384 (R195). -/
def execMhBMakeup384 (s : State) : Outcome State Fault Refusal := makeup .black 384 s
/-- Black make-up code 448 (R195). -/
def execMhBMakeup448 (s : State) : Outcome State Fault Refusal := makeup .black 448 s
/-- Black make-up code 512 (R195). -/
def execMhBMakeup512 (s : State) : Outcome State Fault Refusal := makeup .black 512 s
/-- Black make-up code 576 (R195). -/
def execMhBMakeup576 (s : State) : Outcome State Fault Refusal := makeup .black 576 s
/-- Black make-up code 640 (R195). -/
def execMhBMakeup640 (s : State) : Outcome State Fault Refusal := makeup .black 640 s
/-- Black make-up code 704 (R195). -/
def execMhBMakeup704 (s : State) : Outcome State Fault Refusal := makeup .black 704 s
/-- Black make-up code 768 (R195). -/
def execMhBMakeup768 (s : State) : Outcome State Fault Refusal := makeup .black 768 s
/-- Black make-up code 832 (R195). -/
def execMhBMakeup832 (s : State) : Outcome State Fault Refusal := makeup .black 832 s
/-- Black make-up code 896 (R195). -/
def execMhBMakeup896 (s : State) : Outcome State Fault Refusal := makeup .black 896 s
/-- Black make-up code 960 (R195). -/
def execMhBMakeup960 (s : State) : Outcome State Fault Refusal := makeup .black 960 s
/-- Black make-up code 1024 (R195). -/
def execMhBMakeup1024 (s : State) : Outcome State Fault Refusal := makeup .black 1024 s
/-- Black make-up code 1088 (R195). -/
def execMhBMakeup1088 (s : State) : Outcome State Fault Refusal := makeup .black 1088 s
/-- Black make-up code 1152 (R195). -/
def execMhBMakeup1152 (s : State) : Outcome State Fault Refusal := makeup .black 1152 s
/-- Black make-up code 1216 (R195). -/
def execMhBMakeup1216 (s : State) : Outcome State Fault Refusal := makeup .black 1216 s
/-- Black make-up code 1280 (R195). -/
def execMhBMakeup1280 (s : State) : Outcome State Fault Refusal := makeup .black 1280 s
/-- Black make-up code 1344 (R195). -/
def execMhBMakeup1344 (s : State) : Outcome State Fault Refusal := makeup .black 1344 s
/-- Black make-up code 1408 (R195). -/
def execMhBMakeup1408 (s : State) : Outcome State Fault Refusal := makeup .black 1408 s
/-- Black make-up code 1472 (R195). -/
def execMhBMakeup1472 (s : State) : Outcome State Fault Refusal := makeup .black 1472 s
/-- Black make-up code 1536 (R195). -/
def execMhBMakeup1536 (s : State) : Outcome State Fault Refusal := makeup .black 1536 s
/-- Black make-up code 1600 (R195). -/
def execMhBMakeup1600 (s : State) : Outcome State Fault Refusal := makeup .black 1600 s
/-- Black make-up code 1664 (R195). -/
def execMhBMakeup1664 (s : State) : Outcome State Fault Refusal := makeup .black 1664 s
/-- Black make-up code 1728 (R195). -/
def execMhBMakeup1728 (s : State) : Outcome State Fault Refusal := makeup .black 1728 s
/-- Extended make-up code 1792 (R196). -/
def execMhExtMakeup1792 (s : State) : Outcome State Fault Refusal := extMakeup 1792 s
/-- Extended make-up code 1856 (R196). -/
def execMhExtMakeup1856 (s : State) : Outcome State Fault Refusal := extMakeup 1856 s
/-- Extended make-up code 1920 (R196). -/
def execMhExtMakeup1920 (s : State) : Outcome State Fault Refusal := extMakeup 1920 s
/-- Extended make-up code 1984 (R196). -/
def execMhExtMakeup1984 (s : State) : Outcome State Fault Refusal := extMakeup 1984 s
/-- Extended make-up code 2048 (R196). -/
def execMhExtMakeup2048 (s : State) : Outcome State Fault Refusal := extMakeup 2048 s
/-- Extended make-up code 2112 (R196). -/
def execMhExtMakeup2112 (s : State) : Outcome State Fault Refusal := extMakeup 2112 s
/-- Extended make-up code 2176 (R196). -/
def execMhExtMakeup2176 (s : State) : Outcome State Fault Refusal := extMakeup 2176 s
/-- Extended make-up code 2240 (R196). -/
def execMhExtMakeup2240 (s : State) : Outcome State Fault Refusal := extMakeup 2240 s
/-- Extended make-up code 2304 (R196). -/
def execMhExtMakeup2304 (s : State) : Outcome State Fault Refusal := extMakeup 2304 s
/-- Extended make-up code 2368 (R196). -/
def execMhExtMakeup2368 (s : State) : Outcome State Fault Refusal := extMakeup 2368 s
/-- Extended make-up code 2432 (R196). -/
def execMhExtMakeup2432 (s : State) : Outcome State Fault Refusal := extMakeup 2432 s
/-- Extended make-up code 2496 (R196). -/
def execMhExtMakeup2496 (s : State) : Outcome State Fault Refusal := extMakeup 2496 s
/-- Extended make-up code 2560 (R196). -/
def execMhExtMakeup2560 (s : State) : Outcome State Fault Refusal := extMakeup 2560 s

end Sys2Proof.Machine
end

