-- ==== Sys2Proof/Machine/Ycbcr.lean ====
section
/-! DEFINITION. YCbCr-to-RGB conversion and the chroma upsampler: spec/48_ycbcr.md R380 to R389. -/

namespace Sys2Proof.Machine

open Sys2Proof

/-! ### Conversion (R380, R381) -/

/-- A coefficient: numerator over denominator, exact. -/
def ratio (num den : Word) : Rat := (num.toNat : Rat) / (den.toNat : Rat)

/-- RB0 to RB5 (R380). -/
def YccCoefs.rb (c : YccCoefs) : Nat → Rat
  | 0 => ratio c.refbw0Num c.refbw0Den
  | 1 => ratio c.refbw1Num c.refbw1Den
  | 2 => ratio c.refbw2Num c.refbw2Den
  | 3 => ratio c.refbw3Num c.refbw3Den
  | 4 => ratio c.refbw4Num c.refbw4Den
  | _ => ratio c.refbw5Num c.refbw5Den

/-- The coefficient checks of R380. -/
def YccCoefs.ok (c : YccCoefs) : Bool :=
  decide (c.lumaRDen ≠ 0 ∧ c.lumaGDen ≠ 0 ∧ c.lumaBDen ≠ 0) &&
  decide (c.refbw0Den ≠ 0 ∧ c.refbw1Den ≠ 0 ∧ c.refbw2Den ≠ 0) &&
  decide (c.refbw3Den ≠ 0 ∧ c.refbw4Den ≠ 0 ∧ c.refbw5Den ≠ 0) &&
  decide (c.lumaGNum ≠ 0) &&
  decide (c.rb 1 ≠ c.rb 0 ∧ c.rb 3 ≠ c.rb 2 ∧ c.rb 5 ≠ c.rb 4)

/-- `clamp(i, 0, 255)` as a byte. -/
def clampByte (i : Int) : Byte :=
  if i < 0 then 0 else if 255 < i then 255 else BitVec.ofNat 8 i.toNat

/-- `clamp(floor(x + 1/2), 0, 255)`. -/
def roundByte (x : Rat) : Byte :=
  clampByte (x + 1 / 2).floor

/-- `YCbCrToRGB` (R381), in exact rational arithmetic. -/
def ycbcrToRgb (c : YccCoefs) (y cb cr : Byte) : List Byte :=
  let lr := ratio c.lumaRNum c.lumaRDen
  let lg := ratio c.lumaGNum c.lumaGDen
  let lb := ratio c.lumaBNum c.lumaBDen
  let y' := ((y.toNat : Rat) - c.rb 0) * 255 / (c.rb 1 - c.rb 0)
  let cb' := ((cb.toNat : Rat) - c.rb 2) * 127 / (c.rb 3 - c.rb 2)
  let cr' := ((cr.toNat : Rat) - c.rb 4) * 127 / (c.rb 5 - c.rb 4)
  let r := cr' * (2 - 2 * lr) + y'
  let b := cb' * (2 - 2 * lb) + y'
  let g := (y' - lb * b - lr * r) / lg
  [roundByte r, roundByte g, roundByte b]

/-! ### Upsampling (R383 to R388) -/

/-- `ceil(n / d)`. -/
def ceilDiv (n d : Nat) : Nat := (n + d - 1) / d

/-- The operands of UPSAMPLE_YCBCR (R383). -/
structure Upsampling where
  (w h hs vs posn : Nat)
  raw : Bool
  deriving DecidableEq, Repr

/-- Blocks in a row of blocks (R384). -/
def Upsampling.nbx (u : Upsampling) : Nat := ceilDiv u.w u.hs
/-- Rows of blocks (R384). -/
def Upsampling.nby (u : Upsampling) : Nat := ceilDiv u.h u.vs
/-- Bytes of a data unit (R384). -/
def Upsampling.unit (u : Upsampling) : Nat := u.hs * u.vs + 2
/-- Bytes the image needs (R384). -/
def Upsampling.need (u : Upsampling) : Nat := u.nbx * u.nby * u.unit

/-- The byte at a place in the data unit of a block (R384). -/
def Upsampling.sample (u : Upsampling) (b : List Byte) (bx by' i : Nat) : Byte :=
  b.getD ((by' * u.nbx + bx) * u.unit + i) 0

/-- The Y sample of a pixel (R384). -/
def Upsampling.yAt (u : Upsampling) (b : List Byte) (x y : Nat) : Byte :=
  u.sample b (x / u.hs) (y / u.vs) (y % u.vs * u.hs + x % u.hs)

/-- The chroma sample of a block: `plane` 0 is Cb, 1 is Cr (R384). -/
def Upsampling.chroma (u : Upsampling) (b : List Byte) (plane bx by' : Nat) : Nat :=
  (u.sample b bx by' (u.hs * u.vs + plane)).toNat

/-- `clamp(i, 0, n - 1)`. -/
def clampIndex (i : Int) (n : Nat) : Nat :=
  if i < 0 then 0 else if (n : Int) - 1 < i then n - 1 else i.toNat

/-- The two chroma indices and the weight of the second, out of `2·f` (R385). -/
def chromaAxis (posn x f n : Nat) : Nat × Nat × Nat :=
  let num : Int := if posn = 1 then 2 * (x : Int) + 1 - f else 2 * x
  let den : Int := 2 * f
  (clampIndex (num / den) n, clampIndex (num / den + 1) n, (num % den).toNat)

/-- The interpolated chroma of a pixel (R388). -/
def Upsampling.up (u : Upsampling) (b : List Byte) (plane x y : Nat) : Byte :=
  let (ia, ib, fx) := chromaAxis u.posn x u.hs u.nbx
  let (ja, jb, fy) := chromaAxis u.posn y u.vs u.nby
  let dx := 2 * u.hs
  let dy := 2 * u.vs
  let p := u.chroma b plane
  let sum := (dx - fx) * (dy - fy) * p ia ja + fx * (dy - fy) * p ib ja +
    (dx - fx) * fy * p ia jb + fx * fy * p ib jb
  BitVec.ofNat 8 ((sum + dx * dy / 2) / (dx * dy))

/-- The three bytes of a pixel (R387). -/
def Upsampling.pixel (u : Upsampling) (c : YccCoefs) (b : List Byte) (x y : Nat) : List Byte :=
  if u.raw then [u.yAt b x y, u.up b 0 x y, u.up b 1 x y]
  else ycbcrToRgb c (u.yAt b x y) (u.up b 0 x y) (u.up b 1 x y)

/-- `Upsample` (R388); none is CodecError(TRUNCATED). -/
def Upsampling.run (u : Upsampling) (c : YccCoefs) (b : List Byte) : Option (List Byte) :=
  if b.length < u.need then none
  else some ((List.range u.h).flatMap fun y => (List.range u.w).flatMap fun x => u.pixel c b x y)

end Sys2Proof.Machine
end

