-- ==== Sys2Proof/Machine/Jpeg.lean ====
section
/-! DEFINITION. JPEG segments, scan and sample assembly: spec/47_jpeg.md R310 to R338, R366 and R370. The meanings of
the markers and of the entropy-coded symbols are in Machine/JpegCodes.lean. -/

namespace Sys2Proof.Machine

open Sys2Proof Host

/-! ### Configuration and state (R310, R312, R313) -/

/-- The configuration checks of R310. -/
def jpegChecks (P : Params) (L : Latched) : List (Bool × ErrKind) :=
  [ (decide (1 ≤ L.width.toNat ∧ L.width.toNat ≤ P.maxWidth), .width),
    (decide (L.bps.toNat = 8), .bps),
    (decide (1 ≤ L.spp.toNat ∧ L.spp.toNat ≤ 4), .spp),
    (decide (L.bpr.toNat = L.width.toNat * L.nc), .bpr),
    (!L.colourStage || L.coef.ok, .yccCoef) ]

/-- The JPEG state at the start of a strip or of a tables stream (R312, R340). -/
def JpegState.init (tablesOnly : Bool) (tables : JpegTables) : JpegState where
  tablesOnly := tablesOnly
  phase := .soi
  tables := tables
  frame := none
  scan := []
  preds := []
  mcu := 0
  block := 0
  zz := []
  ebuf := []
  blocks := []

/-! ### Segments (R311, R315, R317 to R320, R328) -/

/-- A two-byte field, most significant byte first (R311). -/
def be16 (a b : Byte) : Nat := 256 * a.toNat + b.toNat

/-- The high and the low four bits of a byte (R311). -/
def nibbles (b : Byte) : Nat × Nat := (b.toNat / 16, b.toNat % 16)

/-- A segment's content: its length bytes are read, and the cursor passes it (R315). -/
def withSegment (st : StripState) (f : List Byte → StripState → StripState) : StripState :=
  match st.bytes with
  | a :: b :: rest =>
    if be16 a b < 2 then st.fail .jpegBadSegment
    else if rest.length < be16 a b - 2 then st.fail .truncated
    else f (rest.take (be16 a b - 2)) (st.skip (8 * be16 a b))
  | _ => st.fail .truncated

/-- The zig-zag order ZZ (R332). -/
def zigzag : List Nat :=
  [0, 1, 8, 16, 9, 2, 3, 10, 17, 24, 32, 25, 18, 11, 4, 5] ++
  [12, 19, 26, 33, 40, 48, 41, 34, 27, 20, 13, 6, 7, 14, 21, 28] ++
  [35, 42, 49, 56, 57, 50, 43, 36, 29, 22, 15, 23, 30, 37, 44, 51] ++
  [58, 59, 52, 45, 38, 31, 39, 46, 53, 60, 61, 54, 47, 55, 62, 63]

/-- 64 things given in zig-zag order, in natural order (R317, R332). -/
def natural {α : Type} (l : List α) (d : α) : List α :=
  (List.range 64).map fun i => l.getD (zigzag.idxOf i) d

/-- 16-bit values from byte pairs. -/
def pairs : List Byte → List (BitVec 16)
  | a :: b :: rest => (a ++ b : BitVec 16) :: pairs rest
  | _ => []

/-- The tables of a DQT segment (R317); the first argument bounds their number. -/
def parseDqt : Nat → List Byte → JpegTables → Except ErrKind JpegTables
  | _, [], T => .ok T
  | 0, _ :: _, _ => .error .jpegBadSegment
  | n + 1, h :: rest, T =>
    let (pq, tq) := nibbles h
    let size := if pq = 0 then 64 else 128
    if 1 < pq ∨ 3 < tq then .error .jpegBadTable
    else if rest.length < size then .error .jpegBadSegment
    else
      let values := if pq = 0 then (rest.take 64).map (·.setWidth 16) else pairs (rest.take 128)
      parseDqt n (rest.drop size) { T with q := T.q.put tq (some (natural values 0)) }

/-- The tables of a DHT segment (R318); the first argument bounds their number. A table's class and
number come first (log 19); that its 16 BITS bytes, their sum, the HUFFVAL bytes and the builder are tested in this
order is the model's choice (log 39). -/
def parseDht : Nat → List Byte → JpegTables → Except ErrKind JpegTables
  | _, [], T => .ok T
  | 0, _ :: _, _ => .error .jpegBadSegment
  | n + 1, h :: rest, T =>
    let (tc, th) := nibbles h
    let bits := (rest.take 16).map (·.toNat)
    let count := bits.sum
    if 1 < tc ∨ 3 < th then .error .jpegBadTable
    else if rest.length < 16 then .error .jpegBadSegment
    else if 256 < count then .error .jpegBadTable
    else if (rest.drop 16).length < count then .error .jpegBadSegment
    else match buildHuff bits ((rest.drop 16).take count) with
      | none => .error .jpegBadTable
      | some t =>
        parseDht n (rest.drop (16 + count))
          (if tc = 0 then { T with dc := T.dc.put th (some t) } else { T with ac := T.ac.put th (some t) })

/-- A DQT segment: one or more tables (R317). -/
def dqt (body : List Byte) (T : JpegTables) : Except ErrKind JpegTables :=
  if body = [] then .error .jpegBadSegment else parseDqt body.length body T

/-- A DHT segment: one or more tables (R318). -/
def dht (body : List Byte) (T : JpegTables) : Except ErrKind JpegTables :=
  if body = [] then .error .jpegBadSegment else parseDht body.length body T

/-- A DRI segment: Lr must be 4 (R319). -/
def dri (body : List Byte) (T : JpegTables) : Except ErrKind JpegTables :=
  match body with
  | [a, b] => .ok { T with ri := a ++ b }
  | _ => .error .jpegBadSegment

/-- The component records of a frame header (R320). -/
def frameComps : List Byte → List JpegComp
  | c :: hv :: tq :: rest =>
    { id := c.toNat, h := (nibbles hv).1, v := (nibbles hv).2, tq := tq.toNat } :: frameComps rest
  | _ => []

/-- The frame header of SOF0 and SOF1 and its checks after that of a second SOF, in order (R320). -/
def sof (L : Latched) (body : List Byte) : Except ErrKind JpegFrame :=
  match body with
  | p :: y1 :: y0 :: x1 :: x0 :: nf :: rest =>
    let comps := frameComps rest
    if p.toNat ≠ 8 then .error .jpegPrecision
    else if nf.toNat = 0 ∨ rest.length ≠ 3 * nf.toNat then .error .jpegBadSegment
    else if comps.any fun c => !(decide (1 ≤ c.h ∧ c.h ≤ 4 ∧ 1 ≤ c.v ∧ c.v ≤ 4 ∧ c.tq ≤ 3)) then
      .error .jpegBadSegment
    else if ¬ (comps.map (·.id)).Nodup then .error .jpegBadSegment
    else if 1 < nf.toNat ∧ 10 < (comps.map fun c => c.h * c.v).sum then .error .jpegBadSegment
    else if be16 y1 y0 = 0 then .error .jpegDnl
    else if be16 x1 x0 ≠ L.width.toNat ∨ nf.toNat ≠ L.nc then .error .jpegGeometry
    else .ok { y := be16 y1 y0, x := be16 x1 x0, comps }
  | p :: _ => .error (if p.toNat ≠ 8 then .jpegPrecision else .jpegBadSegment)
  | [] => .error .jpegBadSegment

/-- The component selectors of a scan header: Cs and the table numbers (R328). -/
def scanComps : List Byte → List (Nat × JpegScanComp)
  | c :: tt :: rest => (c.toNat, { td := (nibbles tt).1, ta := (nibbles tt).2 }) :: scanComps rest
  | _ => []

/-- Every table that the scan uses is defined (R328). -/
def tablesDefined (T : JpegTables) (comps : List JpegComp) (scan : List JpegScanComp) : Bool :=
  comps.all (fun c => (T.q.get c.tq).isSome) &&
    scan.all fun c => (T.dc.get c.td).isSome && (T.ac.get c.ta).isSome

/-- The scan header of SOS and its checks after that of a second SOS, in order (R328). -/
def sos (T : JpegTables) (f : JpegFrame) (body : List Byte) : Except ErrKind (List JpegScanComp) :=
  match body with
  | [] => .error .jpegBadSegment
  | ns :: rest =>
    let n := ns.toNat
    let sel := scanComps (rest.take (2 * n))
    let scan := sel.map (·.2)
    let tail := rest.drop (2 * n)
    if n < 1 ∨ 4 < n ∨ rest.length ≠ 2 * n + 3 then .error .jpegBadSegment
    else if n ≠ f.comps.length then .error .jpegMultiscan
    else if sel.map (·.1) ≠ f.comps.map (·.id) ∨ (scan.any fun c => decide (3 < c.td ∨ 3 < c.ta)) then
      .error .jpegBadSegment
    else if tail ≠ [0, 63, 0] then .error .jpegMode
    else if !tablesDefined T f.comps scan then .error .jpegNoTable
    else .ok scan

/-! ### MCU structure (R329) -/

/-- The components with the sampling factors that the scan uses: 1 and 1 when there is one component. -/
def JpegFrame.effective (f : JpegFrame) : List JpegComp :=
  if f.comps.length = 1 then f.comps.map fun c => { c with h := 1, v := 1 } else f.comps

/-- Hmax of the effective components. -/
def JpegFrame.hmax (f : JpegFrame) : Nat := f.effective.foldl (fun m c => max m c.h) 1
/-- Vmax of the effective components. -/
def JpegFrame.vmax (f : JpegFrame) : Nat := f.effective.foldl (fun m c => max m c.v) 1
/-- MCUs in an MCU row. -/
def JpegFrame.mcusPerRow (f : JpegFrame) : Nat := ceilDiv f.x (8 * f.hmax)
/-- MCU rows. -/
def JpegFrame.mcuRows (f : JpegFrame) : Nat := ceilDiv f.y (8 * f.vmax)
/-- Total MCUs. -/
def JpegFrame.total (f : JpegFrame) : Nat := f.mcusPerRow * f.mcuRows

/-- The component of each block of an MCU, in order. -/
def JpegFrame.blockComps (f : JpegFrame) : List Nat :=
  (f.effective.zipIdx).flatMap fun p => List.replicate (p.1.h * p.1.v) p.2

/-- The first block of component `i` in an MCU. -/
def JpegFrame.blockBase (f : JpegFrame) (i : Nat) : Nat :=
  ((f.effective.take i).map fun c => c.h * c.v).sum

/-! ### Sample assembly (R336 to R338, R366) -/

/-- The sample at column `px` and row `py` of component `i`'s plane, within the MCU row whose blocks are
given in decoding order (R329, R337). -/
def planeSample (f : JpegFrame) (blocks : List (List Byte)) (i : Nat) (c : JpegComp) (px py : Nat) : Byte :=
  let bx := px / 8
  let block := bx / c.h * f.blockComps.length + f.blockBase i + (py / 8 * c.h + bx % c.h)
  (blocks.getD block []).getD (py % 8 * 8 + px % 8) 0

/-- The output bytes of pixel `x` of row `y` of an MCU row (R338), through the colour stage where it is
enabled (R366). -/
def jpegPixel (L : Latched) (f : JpegFrame) (blocks : List (List Byte)) (y x : Nat) : List Byte :=
  let values := f.effective.zipIdx.map fun p =>
    planeSample f blocks p.2 p.1 (x * p.1.h / f.hmax) (y * p.1.v / f.vmax)
  match L.colourStage, values with
  | true, [a, b, c] => ycbcrToRgb L.coef a b c
  | _, _ => values

/-- The output bytes of MCU row `r` (R338). -/
def mcuRowBytes (L : Latched) (f : JpegFrame) (blocks : List (List Byte)) (r : Nat) : List Byte :=
  (List.range (min (8 * f.vmax) (f.y - r * (8 * f.vmax)))).flatMap fun y =>
    (List.range f.x).flatMap fun x => jpegPixel L f blocks y x

/-- The samples of a block from its 64 coefficients in zig-zag order: dequantisation (R332), inverse DCT
(R336), level shift and clamp (R337). -/
def blockSamples (P : Params) (q : List (BitVec 16)) (zz : List Int) : List Byte :=
  (P.idct8 (((natural zz 0).zip q).map fun p => p.1 * (p.2.toNat : Int))).map fun s => clampByte (s + 128)

/-! ### Scan decoding (R330, R331, R334, R335, R370) -/

/-- The frame, or one with no component where no frame has been read. -/
def JpegState.frameD (j : JpegState) : JpegFrame :=
  j.frame.getD { y := 0, x := 0, comps := [] }

/-- The component that the next block belongs to. -/
def JpegState.comp (j : JpegState) : Nat :=
  j.frameD.blockComps.getD j.block 0

/-- The scan component that the next block belongs to. -/
def JpegState.scanComp? (j : JpegState) : Option JpegScanComp :=
  (j.frameD.blockComps[j.block]?).bind fun i => j.scan[i]?

/-- Emission of a complete MCU row that is not the last (R370). -/
def flushRow (j : JpegState) (st : StripState) : StripState :=
  let f := j.frameD
  if j.mcu % f.mcusPerRow = 0 ∧ j.mcu < f.total then
    { st.emit (mcuRowBytes st.cfg f j.blocks (j.mcu / f.mcusPerRow - 1)) with
      codec := .jpeg { j with blocks := [] } }
  else { st with codec := .jpeg j }

/-- What follows a finished MCU: the end of the scan (R335), a restart point (R334), or the next MCU. At the
first two the entropy reader is aligned: its unused bits are discarded (R333). -/
def finishMcu (j : JpegState) (st : StripState) : StripState :=
  let f := j.frameD
  let n := j.mcu + 1
  if f.total ≤ n then { st with codec := .jpeg { j with mcu := n, block := 0, phase := .tail, ebuf := [] } }
  else if 0 < j.tables.ri.toNat ∧ n % j.tables.ri.toNat = 0 then
    { st with codec := .jpeg { j with mcu := n, block := 0, phase := .restart, ebuf := [] } }
  else flushRow { j with mcu := n, block := 0 } st

/-- What follows a finished block: its samples join the MCU row's (R336, R337). -/
def finishBlock (P : Params) (j : JpegState) (zz : List Int) (st : StripState) : StripState :=
  let tq := ((j.frameD.comps[j.comp]?).map (·.tq)).getD 0
  let q := (j.tables.q.get tq).getD []
  let g := { j with zz := [], blocks := j.blocks ++ [blockSamples P q zz], block := j.block + 1 }
  if j.frameD.blockComps.length ≤ g.block then finishMcu g st else { st with codec := .jpeg g }

/-- `EXTEND(v, t)` (R327). -/
def extend (v t : Nat) : Int :=
  if t = 0 then 0
  else if v < 2 ^ (t - 1) then (v : Int) - (2 ^ t - 1) else v

/-- A DC symbol: category `t` and magnitude bits `v` (R330). -/
def dcStep (t v : Nat) (j : JpegState) (st : StripState) : StripState :=
  if 11 < t then st.fail .jpegBadData
  else
    let pred := j.preds.getD j.comp 0 + extend v t
    { st with codec := .jpeg { j with preds := j.preds.set j.comp pred, zz := [pred] } }

/-- An AC symbol: run and size `rs`, magnitude bits `v` (R331). -/
def acStep (P : Params) (rs v : Nat) (j : JpegState) (st : StripState) : StripState :=
  let k := j.zz.length
  let r := rs / 16
  let size := rs % 16
  let goOn (zz : List Int) : StripState :=
    if 64 ≤ zz.length then finishBlock P j zz st else { st with codec := .jpeg { j with zz } }
  if size = 0 then
    if r = 15 then
      if 64 < k + 16 then st.fail .jpegBadData else goOn (j.zz ++ List.replicate 16 0)
    else finishBlock P j (j.zz ++ List.replicate (64 - k) 0) st
  else if 10 < size ∨ 63 < k + r then st.fail .jpegBadData
  else goOn (j.zz ++ List.replicate r 0 ++ [extend v size])

/-- A stuffed byte adds the eight bits of `FF` to the entropy bit buffer (R138). -/
def stuffStep (j : JpegState) (st : StripState) : StripState :=
  match j.phase with
  | .entropy => { st with codec := .jpeg { j with ebuf := j.ebuf ++ List.replicate 8 true } }
  | .soi => st.fail .jpegNoSoi
  | .header | .restart | .tail => st.fail .jpegBadMarker

/-! ### Markers (R314, R316, R321, R333 to R335, R339, R340) -/

/-- What a marker does, by the phase it is read in: before SOI and inside entropy-coded data it is an error
whatever it is, and at a restart point only RST may stand. `act` is its action where markers are expected. -/
def markerStep (eoi : Bool) (act : JpegState → StripState → StripState) (j : JpegState) (st : StripState) :
    StripState :=
  match j.phase with
  | .soi => st.fail .jpegNoSoi
  | .entropy => st.fail (if eoi then .truncated else .jpegBadData)
  | .restart => st.fail .jpegRestart
  | .header | .tail => act j st

/-- SOI: the first marker and no other (R316, R335). -/
def soiStep (j : JpegState) (st : StripState) : StripState :=
  match j.phase with
  | .soi => { st with codec := .jpeg { j with phase := .header } }
  | _ => markerStep false (fun _ st => st.fail .jpegBadMarker) j st

/-- EOI: the end after the scan, with the last MCU row's emission (R335, R370), and the end of a tables stream
(R340); before SOS an error (R316). -/
def eoiAct (j : JpegState) (st : StripState) : StripState :=
  match j.phase with
  | .tail =>
    (st.emit (mcuRowBytes st.cfg j.frameD j.blocks (j.frameD.mcuRows - 1))).stop .done
  | _ => if j.tablesOnly then st.stop .done else st.fail .jpegBadMarker

/-- DQT, DHT and DRI change `T'` (R313, R335, R340). -/
def tablesAct (parse : List Byte → JpegTables → Except ErrKind JpegTables) (j : JpegState)
    (st : StripState) : StripState :=
  withSegment st fun body st =>
    match parse body j.tables with
    | .error k => st.fail k
    | .ok tables => { st with codec := .jpeg { j with tables } }

/-- APPn and COM are skipped (R321, R335). -/
def skipAct (_j : JpegState) (st : StripState) : StripState :=
  withSegment st fun _ st => st

/-- SOF0 and SOF1 (R320); not in a tables stream (R340), after the scan (R335) or a second time. -/
def sofAct (j : JpegState) (st : StripState) : StripState :=
  if j.tablesOnly ∨ j.phase = .tail ∨ j.frame.isSome then st.fail .jpegBadMarker
  else withSegment st fun body st =>
    match sof st.cfg body with
    | .error k => st.fail k
    | .ok f => { st with codec := .jpeg { j with frame := some f } }

/-- SOS (R328): a second one is JPEG_MULTISCAN (R335); not before SOF (R321) or in a tables stream (R340). -/
def sosAct (j : JpegState) (st : StripState) : StripState :=
  if j.phase = .tail then st.fail .jpegMultiscan
  else match j.tablesOnly, j.frame with
    | false, some f =>
      withSegment st fun body st =>
        match sos j.tables f body with
        | .error k => st.fail k
        | .ok scan =>
          let phase : JpegPhase := if f.total = 0 then .tail else .entropy
          let g := { j with scan, phase, preds := List.replicate f.comps.length 0, mcu := 0, block := 0 }
          { st with codec := .jpeg { g with zz := [], ebuf := [], blocks := [] } }
    | _, _ => st.fail .jpegBadMarker

/-- A marker of a mode the block does not support (R321); after the scan it is a marker that cannot stand
there (R335, log 18). -/
def modeAct (j : JpegState) (st : StripState) : StripState :=
  st.fail (if j.phase = .tail then .jpegBadMarker else .jpegMode)

/-- DNL (R321, R335). -/
def dnlAct (_j : JpegState) (st : StripState) : StripState :=
  st.fail .jpegDnl

/-- A marker that can stand nowhere (R321). -/
def badAct (_j : JpegState) (st : StripState) : StripState :=
  st.fail .jpegBadMarker

/-- RSTm: at a restart point the expected one resets the predictors and the bit buffer (R334), and the MCU
row that ended there is emitted (R370, log 24). -/
def rstStep (m : Nat) (j : JpegState) (st : StripState) : StripState :=
  match j.phase with
  | .restart =>
    if m = (j.mcu / j.tables.ri.toNat - 1) % 8 then
      flushRow { j with phase := .entropy, preds := j.preds.map (fun _ => 0), ebuf := [] } st
    else st.fail .jpegRestart
  | _ => markerStep false badAct j st

end Sys2Proof.Machine
end

