-- ==== Sys2Proof/Machine/JpegCodes.lean ====
section
/-! DEFINITION. The meanings of the JPEG markers and entropy-coded symbols: spec/47_jpeg.md R314 to R340. -/

namespace Sys2Proof.Machine

open Sys2Proof Host

/-- A marker that the JPEG unit reads. -/
def onMarker (s : State) (f : JpegState → StripState → StripState) : Outcome State Fault Refusal :=
  onJpeg s (fun _ => true) f

/-- An entropy-coded symbol stands only in entropy-coded data: a DC symbol first in a block, AC symbols after it
(R330, R331). -/
def symbolHere (ac : Bool) (j : JpegState) : Bool :=
  decide (j.phase = .entropy) && (!j.zz.isEmpty == ac) && decide (j.zz.length < 64)

/-- SOI (R316). -/
def execJpegSoi (s : State) : Outcome State Fault Refusal :=
  onMarker s soiStep

/-- EOI (R316, R333, R335, R340). -/
def execJpegEoi (s : State) : Outcome State Fault Refusal :=
  onMarker s (markerStep true eoiAct)

/-- DQT (R317). -/
def execJpegDqt (s : State) : Outcome State Fault Refusal :=
  onMarker s (markerStep false (tablesAct dqt))

/-- DHT (R318). -/
def execJpegDht (s : State) : Outcome State Fault Refusal :=
  onMarker s (markerStep false (tablesAct dht))

/-- DRI (R319). -/
def execJpegDri (s : State) : Outcome State Fault Refusal :=
  onMarker s (markerStep false (tablesAct dri))

/-- SOF0 (R320). -/
def execJpegSof0 (s : State) : Outcome State Fault Refusal :=
  onMarker s (markerStep false sofAct)

/-- SOF1 (R320). -/
def execJpegSof1 (s : State) : Outcome State Fault Refusal :=
  onMarker s (markerStep false sofAct)

/-- SOS (R328). -/
def execJpegSos (s : State) : Outcome State Fault Refusal :=
  onMarker s (markerStep false sosAct)

/-- COM (R321). -/
def execJpegCom (s : State) : Outcome State Fault Refusal :=
  onMarker s (markerStep false skipAct)

/-- SOF2 (R321). -/
def execJpegSof2 (s : State) : Outcome State Fault Refusal :=
  onMarker s (markerStep false modeAct)

/-- SOF3 (R321). -/
def execJpegSof3 (s : State) : Outcome State Fault Refusal :=
  onMarker s (markerStep false modeAct)

/-- SOF5 (R321). -/
def execJpegSof5 (s : State) : Outcome State Fault Refusal :=
  onMarker s (markerStep false modeAct)

/-- SOF6 (R321). -/
def execJpegSof6 (s : State) : Outcome State Fault Refusal :=
  onMarker s (markerStep false modeAct)

/-- SOF7 (R321). -/
def execJpegSof7 (s : State) : Outcome State Fault Refusal :=
  onMarker s (markerStep false modeAct)

/-- JPG (R321). -/
def execJpegJpg (s : State) : Outcome State Fault Refusal :=
  onMarker s (markerStep false modeAct)

/-- SOF9 (R321). -/
def execJpegSof9 (s : State) : Outcome State Fault Refusal :=
  onMarker s (markerStep false modeAct)

/-- SOF10 (R321). -/
def execJpegSof10 (s : State) : Outcome State Fault Refusal :=
  onMarker s (markerStep false modeAct)

/-- SOF11 (R321). -/
def execJpegSof11 (s : State) : Outcome State Fault Refusal :=
  onMarker s (markerStep false modeAct)

/-- DAC (R321). -/
def execJpegDac (s : State) : Outcome State Fault Refusal :=
  onMarker s (markerStep false modeAct)

/-- SOF13 (R321). -/
def execJpegSof13 (s : State) : Outcome State Fault Refusal :=
  onMarker s (markerStep false modeAct)

/-- SOF14 (R321). -/
def execJpegSof14 (s : State) : Outcome State Fault Refusal :=
  onMarker s (markerStep false modeAct)

/-- SOF15 (R321). -/
def execJpegSof15 (s : State) : Outcome State Fault Refusal :=
  onMarker s (markerStep false modeAct)

/-- DHP (R321). -/
def execJpegDhp (s : State) : Outcome State Fault Refusal :=
  onMarker s (markerStep false modeAct)

/-- EXP (R321). -/
def execJpegExp (s : State) : Outcome State Fault Refusal :=
  onMarker s (markerStep false modeAct)

/-- DNL (R321). -/
def execJpegDnl (s : State) : Outcome State Fault Refusal :=
  onMarker s (markerStep false dnlAct)

/-- TEM (R321). -/
def execJpegTem (s : State) : Outcome State Fault Refusal :=
  onMarker s (markerStep false badAct)

/-- RST0 to RST7 (R334). -/
def execJpegRstm (m : BitVec 3) (s : State) : Outcome State Fault Refusal :=
  onMarker s (rstStep m.toNat)

/-- APP0 to APP15 (R321). -/
def execJpegAppn (_n : BitVec 4) (s : State) : Outcome State Fault Refusal :=
  onMarker s (markerStep false skipAct)

/-- A reserved marker (R321). -/
def execJpegRes (_c : BitVec 8) (s : State) : Outcome State Fault Refusal :=
  onMarker s (markerStep false badAct)

/-- JPEG_STUFF (R138). -/
def execJpegStuff (s : State) : Outcome State Fault Refusal :=
  onMarker s stuffStep

/-- JPEG_DC_SYMBOL (R330). -/
def execJpegDcSymbol (t : BitVec 8) (v : BitVec 16) (s : State) : Outcome State Fault Refusal :=
  onJpeg s (symbolHere false) (dcStep t.toNat v.toNat)

/-- JPEG_AC_SYMBOL (R331). -/
def execJpegAcSymbol (rs : BitVec 8) (v : BitVec 16) (s : State) : Outcome State Fault Refusal :=
  onJpeg s (symbolHere true) (acStep Config.params rs.toNat v.toNat)

end Sys2Proof.Machine
end

