-- ==== Sys2Proof/Machine/Float64.lean ====
section
/-! DEFINITION. IEEE 754 binary64 arithmetic, round to nearest, ties to even (spec/46_logluv.md R287): an exact
result in units of 2^-1074, the least subnormal, rounded once. -/

namespace Sys2Proof.Machine

open Sys2Proof

/-- A binary64 datum's meaning. A finite one is `m` units of 2^-1074 with a sign. -/
inductive FVal where
  | nan
  | inf (neg : Bool)
  | fin (neg : Bool) (m : Nat)
  deriving DecidableEq, Repr

/-- The meaning of an encoding. -/
def F64.val (x : F64) : FVal :=
  let neg := x.getLsbD 63
  let e := (x.extractLsb' 52 11).toNat
  let f := (x.extractLsb' 0 52).toNat
  if e = 2047 then (if f = 0 then .inf neg else .nan)
  else if e = 0 then .fin neg f
  else .fin neg ((2 ^ 52 + f) * 2 ^ (e - 1))

/-- The quotient of `n` by `d` rounded to the nearest integer, ties to even. -/
def roundNearestEven (n d : Nat) : Nat :=
  if 2 * (n % d) < d then n / d
  else if d < 2 * (n % d) then n / d + 1
  else n / d + n / d % 2

/-- An encoding from its three fields. -/
def F64.pack (neg : Bool) (e f : Nat) : F64 :=
  (BitVec.ofBool neg ++ BitVec.ofNat 11 e ++ BitVec.ofNat 52 f : BitVec 64)

/-- A NaN that an operation makes: exponent all ones and fraction not zero, the other bits open (log 7). -/
def F64.nan : F64 := Config.nanBits ||| 0x7FF8000000000000

/-- An infinity. -/
def F64.inf (neg : Bool) : F64 := F64.pack neg 2047 0

/-- The binary64 datum nearest `n / d` units of 2^-1074: 53 significant bits, whole units for a subnormal,
infinity from 2^1024 on. -/
def F64.round (neg : Bool) (n d : Nat) : F64 :=
  let drop := (n / d).log2 - 52
  let m := roundNearestEven n (d * 2 ^ drop) * 2 ^ drop
  if 2 ^ 2098 ≤ m then F64.inf neg
  else if m < 2 ^ 52 then F64.pack neg 0 m
  else F64.pack neg (m.log2 - 51) (m / 2 ^ (m.log2 - 52) - 2 ^ 52)

/-- The binary64 datum nearest the rational `n / d`. -/
def F64.ofRatio (n d : Nat) : F64 := F64.round false (n * 2 ^ 1074) d

/-- The binary64 datum nearest an integer. -/
def F64.ofInt (i : Int) : F64 := F64.round (decide (i < 0)) (i.natAbs * 2 ^ 1074) 1

/-- Negation: the sign bit. -/
def F64.neg (x : F64) : F64 := x ^^^ 0x8000000000000000

/-- Addition. An exact zero sum is +0 unless both terms are negative. -/
def F64.add (x y : F64) : F64 :=
  match F64.val x, F64.val y with
  | .nan, _ | _, .nan => F64.nan
  | .inf a, .inf b => if a = b then F64.inf a else F64.nan
  | .inf a, .fin _ _ => F64.inf a
  | .fin _ _, .inf b => F64.inf b
  | .fin a m, .fin b n =>
    if a = b then F64.round a (m + n) 1
    else if n < m then F64.round a (m - n) 1
    else if m < n then F64.round b (n - m) 1
    else F64.pack false 0 0

/-- Subtraction. -/
def F64.sub (x y : F64) : F64 :=
  match F64.val y with
  | .nan => F64.nan
  | _ => F64.add x (F64.neg y)

/-- Multiplication. -/
def F64.mul (x y : F64) : F64 :=
  match F64.val x, F64.val y with
  | .nan, _ | _, .nan => F64.nan
  | .inf a, .inf b => F64.inf (a != b)
  | .inf a, .fin b n | .fin b n, .inf a => if n = 0 then F64.nan else F64.inf (a != b)
  | .fin a m, .fin b n => F64.round (a != b) (m * n) (2 ^ 1074)

/-- Division. -/
def F64.div (x y : F64) : F64 :=
  match F64.val x, F64.val y with
  | .nan, _ | _, .nan => F64.nan
  | .inf _, .inf _ => F64.nan
  | .inf a, .fin b _ => F64.inf (a != b)
  | .fin a _, .inf b => F64.pack (a != b) 0 0
  | .fin a m, .fin b n =>
    if n = 0 then (if m = 0 then F64.nan else F64.inf (a != b))
    else F64.round (a != b) (m * 2 ^ 1074) n

/-- `x ≤ 0`; false of a NaN. -/
def F64.leZero (x : F64) : Bool :=
  match F64.val x with
  | .nan => false
  | .inf neg => neg
  | .fin neg m => neg || decide (m = 0)

end Sys2Proof.Machine
end

