-- ==== Sys2Proof/Machine/LogLuv.lean ====
section
/-! DEFINITION. The LogLuv unit: spec/46_logluv.md R280 to R293. -/

namespace Sys2Proof.Machine

open Sys2Proof Host

/-! ### Luminance and chrominance (R287 to R293) -/

/-- A small number as binary64. -/
def F64.ofNat (n : Nat) : F64 := F64.ofRatio n 1

/-- `n + 0.5` as binary64, by binary64 addition. -/
def F64.half (n : Int) : F64 := F64.add (F64.ofInt n) (F64.ofRatio 1 2)

/-- `ln2`: the binary64 datum nearest ln 2 (R287). -/
def ln2 : F64 := 0x3FE62E42FEFA39EF

/-- `Y16` (R289). -/
def y16 (P : Params) (p : Nat) : F64 :=
  let le : Nat := p % 2 ^ 15
  if le = 0 then F64.ofNat 0
  else
    let y := P.exp64
      (F64.sub (F64.mul (F64.div ln2 (F64.ofNat 256)) (F64.half le)) (F64.mul ln2 (F64.ofNat 64)))
    if p / 2 ^ 15 % 2 = 1 then F64.neg y else y

/-- `Y10` (R289). -/
def y10 (P : Params) (p : Nat) : F64 :=
  if p = 0 then F64.ofNat 0
  else P.exp64
    (F64.sub (F64.mul (F64.div ln2 (F64.ofNat 64)) (F64.half p)) (F64.mul ln2 (F64.ofNat 12)))

/-- A point of the CIE XYZ space. -/
structure Xyz where
  (x y z : F64)
  deriving DecidableEq, Repr

/-- `(0, 0, 0)`. -/
def Xyz.zero : Xyz := ⟨F64.ofNat 0, F64.ofNat 0, F64.ofNat 0⟩

/-- `XYZfromLuv` (R291). -/
def xyzFromLuv (l u v : F64) : Xyz :=
  let s := F64.div (F64.ofNat 1)
    (F64.add (F64.sub (F64.mul (F64.ofNat 6) u) (F64.mul (F64.ofNat 16) v)) (F64.ofNat 12))
  let x := F64.mul (F64.mul (F64.ofNat 9) u) s
  let y := F64.mul (F64.mul (F64.ofNat 4) v) s
  { x := F64.mul (F64.div x y) l
    y := l
    z := F64.mul (F64.div (F64.sub (F64.sub (F64.ofNat 1) x) y) y) l }

/-- `XYZ32` (R291). -/
def xyz32 (P : Params) (p : Nat) : Xyz :=
  let l := y16 P (p / 2 ^ 16 % 2 ^ 16)
  if F64.leZero l then Xyz.zero
  else
    let scale := F64.div (F64.ofNat 1) (F64.ofNat 410)
    xyzFromLuv l (F64.mul scale (F64.half (p / 2 ^ 8 % 2 ^ 8 : Nat))) (F64.mul scale (F64.half (p % 2 ^ 8 : Nat)))

/-- The row of `UV_ROW` that holds chrominance `c` (R292): a binary search between `lower` and `upper`. The first
argument bounds the number of halvings; 163 rows need at most 8. -/
def uvSearch (P : Params) (c : Nat) : Nat → Nat → Nat → Nat
  | 0, lower, _ => lower
  | n + 1, lower, upper =>
    if upper - lower ≤ 1 then lower
    else
      let vi := (lower + upper) / 2
      let ui : Int := (c : Int) - (P.uvRow vi).ncum
      if 0 < ui then uvSearch P c n vi upper
      else if ui < 0 then uvSearch P c n lower vi
      else vi

/-- `uv_decode` (R292). -/
def uvDecode (P : Params) (c : Nat) : F64 × F64 :=
  if 16289 ≤ c then (F64.ofRatio 210526316 1000000000, F64.ofRatio 473684211 1000000000)
  else
    let vi := uvSearch P c 163 0 163
    let ui : Int := (c : Int) - (P.uvRow vi).ncum
    let step := F64.ofRatio 35 10000
    (F64.add (P.uvRow vi).ustart (F64.mul (F64.half ui) step),
      F64.add (F64.ofRatio 16940 1000000) (F64.mul (F64.half vi) step))

/-- `XYZ24` (R292). -/
def xyz24 (P : Params) (p : Nat) : Xyz :=
  let l := y10 P (p / 2 ^ 14 % 2 ^ 10)
  if F64.leZero l then Xyz.zero
  else
    let (u, v) := uvDecode P (p % 2 ^ 14)
    xyzFromLuv l u v

/-- `RGB` (R293). -/
def logLuvRgb (P : Params) (c : Xyz) : List Byte :=
  (List.range 3).map fun k =>
    P.toCode (F64.add (F64.add (F64.mul (P.matrix k 0) c.x) (F64.mul (P.matrix k 1) c.y))
      (F64.mul (P.matrix k 2) c.z))

/-! ### Rows (R281, R283, R290) -/

/-- The number of byte planes of a row (R283). -/
def planeCount (L : Latched) : Nat :=
  if L.unit? = some .logL16 then 2 else if L.unit? = some .logLuv24 then 3 else 4

/-- The output bytes of one pixel word (R290). -/
def logLuvPixel (P : Params) (L : Latched) (p : Nat) : List Byte :=
  if L.unit? = some .logL16 then [P.toCode (y16 P p)]
  else if L.unit? = some .logLuv24 then logLuvRgb P (xyz24 P p)
  else logLuvRgb P (xyz32 P p)

/-- The pixel words of a row from its byte planes, the most significant first (R283). -/
def planeWords (w : Nat) (planes : List (List Byte)) : List Nat :=
  (List.range w).map fun i => planes.foldl (fun v pl => 256 * v + (pl.getD i 0).toNat) 0

/-- The output bytes of a row of pixel words (R290). -/
def logLuvRow (P : Params) (L : Latched) (words : List Nat) : List Byte :=
  words.flatMap (logLuvPixel P L)

/-- The pixel words of a raw LogLuv24 row (R283). -/
def rawWords (b : List Byte) : List Nat :=
  (groups24 b.length b)
where
  /-- Three bytes a word; the first argument bounds their number. -/
  groups24 : Nat → List Byte → List Nat
    | n + 1, b0 :: b1 :: b2 :: rest => (2 ^ 16 * b0.toNat + 2 ^ 8 * b1.toNat + b2.toNat) :: groups24 n rest
    | _, _ => []

/-- A LogLuv24 strip whose rows are raw bytes (R283, R285). -/
def rawRows (P : Params) (L : Latched) : Bool :=
  decide (L.unit? = some .logLuv24) && !P.logluv24Rle

/-- One raw LogLuv24 row, or the end of the stream (R283, R286). -/
def rawRowStep (P : Params) (st : StripState) : StripState :=
  let n := 3 * st.cfg.w
  if st.bytes = [] then st.stop .done
  else if st.bytes.length < n then st.fail .truncated
  else (st.emit (logLuvRow P st.cfg (rawWords (st.bytes.take n)))).skip (8 * n)

/-- The state after bytes are added to the current plane: a full plane is complete, and the last one completes
the row, which is emitted (R284, R290). -/
def planeStep (P : Params) (v : LogLuvState) (b : List Byte) (st : StripState) : StripState :=
  let plane := v.plane ++ b
  if plane.length < st.cfg.w then { st with codec := .logLuv { v with plane, begun := true } }
  else
    let planes := v.planes ++ [plane]
    if planes.length < planeCount st.cfg then
      { st with codec := .logLuv { planes, plane := [], begun := true } }
    else
      { st.emit (logLuvRow P st.cfg (planeWords st.cfg.w planes)) with
        codec := .logLuv { planes := [], plane := [], begun := false } }

/-- A run of `n` copies of the next byte (R284). -/
def logLuvRunStep (P : Params) (n : Nat) (v : LogLuvState) (st : StripState) : StripState :=
  match st.bytes with
  | [] => st.fail .truncated
  | b :: _ =>
    if st.cfg.w < v.plane.length + n then st.fail .logluvRun
    else planeStep P v (List.replicate n b) (st.skip 8)

/-- A literal of `n` bytes (R284). -/
def logLuvLiteralStep (P : Params) (n : Nat) (v : LogLuvState) (st : StripState) : StripState :=
  if st.cfg.w < v.plane.length + n then st.fail .logluvRun
  else if st.bytes.length < n then st.fail .truncated
  else planeStep P v (st.bytes.take n) (st.skip (8 * n))

/-- LOGLUV_RUN, control byte `c` = 0x80 + `n`: `c` - 126 copies (R284). -/
def execLogluvRun (n : BitVec 7) (s : State) : Outcome State Fault Refusal :=
  onLogLuv s (logLuvRunStep Config.params (0x80 + n.toNat - 126))

/-- LOGLUV_LITERAL, control byte `n` (R284). -/
def execLogluvLiteral (n : BitVec 7) (s : State) : Outcome State Fault Refusal :=
  onLogLuv s (logLuvLiteralStep Config.params n.toNat)

/-- The LogLuv state at the start of a strip (R282). -/
def LogLuvState.init : LogLuvState where
  planes := []
  plane := []
  begun := false

/-- The configuration checks of R280. -/
def logLuvChecks (P : Params) (L : Latched) : List (Bool × ErrKind) :=
  [ (decide (1 ≤ L.w ∧ L.w ≤ P.maxWidth), .width),
    (decide (L.bpr.toNat = if L.unit? = some .logL16 then L.w else 3 * L.w), .bpr) ]

end Sys2Proof.Machine
end

