-- ==== Sys2Proof/Machine/Lzw.lean ====
section
/-! DEFINITION. The LZW unit: spec/42_lzw.md R150 to R165. -/

namespace Sys2Proof.Machine

open Sys2Proof Host

/-- `OldVariant(Lin)` (R151). -/
def oldVariant (lin : List Byte) : Bool :=
  match lin with
  | b0 :: b1 :: _ => decide (b0 = 0) && b1.getLsbD 0
  | _ => false

/-- The dictionary of R153, the variant kept. -/
def LzwState.clear (z : LzwState) : LzwState :=
  { z with nbits := 9, prev := none, dict := [] }

/-- The LZW state at the start of a strip (R152, R153). -/
def LzwState.init (lin : List Byte) : LzwState where
  old := oldVariant lin
  nbits := 9
  prev := none
  dict := []

/-- `nextFree` (R152). -/
def LzwState.nextFree (z : LzwState) : Nat :=
  258 + z.dict.length

/-- `dict[c]` for a code from 258 on (R152). -/
def LzwState.entry? (z : LzwState) (c : Nat) : Option LzwEntry :=
  if c < 258 then none else z.dict[c - 258]?

/-- `str(c)` (R154), by recursion on a bound of the number of entries a string passes through: each entry's
prefix is an earlier code. -/
def LzwState.strAux (z : LzwState) : Nat → Nat → List Byte
  | 0, _ => []
  | n + 1, c =>
    if c < 256 then [BitVec.ofNat 8 c]
    else match z.entry? c with
      | some e => z.strAux n e.pre ++ [e.suffix]
      | none => []

/-- `str(c)` (R154). -/
def LzwState.str (z : LzwState) (c : Nat) : List Byte :=
  z.strAux (z.dict.length + 1) c

/-- `first(c)` (R154). -/
def LzwState.first (z : LzwState) (c : Nat) : Byte :=
  if c < 256 then BitVec.ofNat 8 c
  else match z.entry? c with
    | some e => e.first
    | none => 0

/-- `len(str(c))` (R154). -/
def LzwState.len (z : LzwState) (c : Nat) : Nat :=
  if c < 256 then 1
  else match z.entry? c with
    | some e => e.length
    | none => 0

/-- The width update after an addition (R155). -/
def LzwState.widen (z : LzwState) : LzwState :=
  if z.nextFree = (if z.old then 2 ^ z.nbits else 2 ^ z.nbits - 1) ∧ z.nbits < 12 then
    { z with nbits := z.nbits + 1 }
  else z

/-- Dictionary addition (R157) after `prev`, `f` being the first byte of the string being emitted. -/
def LzwState.add (z : LzwState) (prev : Nat) (f : Byte) : LzwState :=
  if z.nextFree < 4096 then
    let e : LzwEntry := { pre := prev, suffix := f, length := z.len prev + 1, first := z.first prev }
    LzwState.widen { z with dict := z.dict ++ [e] }
  else z

/-- Emit a string for code `c`, with the addition that `prev` calls for (R158 to R160). -/
def lzwEmit (c : Nat) (str : List Byte) (f : Byte) (z : LzwState) (st : StripState) : StripState :=
  let z' := match z.prev with
    | some p => z.add p f
    | none => z
  { st.emit str with codec := .lzw { z' with prev := some c } }

/-- A literal code (R158). -/
def lzwLiteralStep (c : Byte) (z : LzwState) (st : StripState) : StripState :=
  lzwEmit c.toNat [c] c z st

/-- Clear (R156). -/
def lzwClearStep (z : LzwState) (st : StripState) : StripState :=
  { st with codec := .lzw z.clear }

/-- A code of a defined entry (R159); with no previous code, LZW_BAD_CODE. -/
def lzwDictStep (c : Nat) (z : LzwState) (st : StripState) : StripState :=
  match z.prev with
  | none => st.fail .lzwBadCode
  | some _ =>
    if 258 ≤ c ∧ c < z.nextFree then lzwEmit c (z.str c) (z.first c) z st
    else st.fail .lzwBadCode

/-- The code equal to nextFree (R160); with no previous code, LZW_BAD_CODE. -/
def lzwKwkwkStep (c : Nat) (z : LzwState) (st : StripState) : StripState :=
  match z.prev with
  | none => st.fail .lzwBadCode
  | some p =>
    if c = z.nextFree ∧ z.nextFree < 4096 then lzwEmit c (z.str p ++ [z.first p]) (z.first p) z st
    else st.fail .lzwBadCode

/-- EOI ends the stream (R162). -/
def lzwEoiStep (_z : LzwState) (st : StripState) : StripState :=
  st.stop .done

/-- A bad code ends the stream with LZW_BAD_CODE (R159 to R161). -/
def lzwBadStep (_z : LzwState) (st : StripState) : StripState :=
  st.fail .lzwBadCode

/-- LZW_LITERAL (R158). -/
def execLzwLiteral (c : BitVec 8) (s : State) : Outcome State Fault Refusal :=
  onLzw s (lzwLiteralStep c)

/-- LZW_CLEAR (R156). -/
def execLzwClear (s : State) : Outcome State Fault Refusal :=
  onLzw s lzwClearStep

/-- LZW_EOI (R162). -/
def execLzwEoi (s : State) : Outcome State Fault Refusal :=
  onLzw s lzwEoiStep

/-- LZW_DICT (R159). -/
def execLzwDict (c : BitVec 12) (s : State) : Outcome State Fault Refusal :=
  onLzw s (lzwDictStep c.toNat)

/-- LZW_KWKWK (R160). -/
def execLzwKwkwk (c : BitVec 12) (s : State) : Outcome State Fault Refusal :=
  onLzw s (lzwKwkwkStep c.toNat)

/-- LZW_BAD (R161, and R159 and R160 with no previous code). -/
def execLzwBad (_c : BitVec 12) (s : State) : Outcome State Fault Refusal :=
  onLzw s lzwBadStep

end Sys2Proof.Machine
end

