-- ==== Sys2Proof/Machine/PackBits.lean ====
section
/-! DEFINITION. The PackBits unit (spec/45_packbits.md R260 to R265) and the deflate adapter
(spec/49_deflate.md R410 to R412). -/

namespace Sys2Proof.Machine

open Sys2Proof Host

/-- A literal of `n` bytes (R262): all of them, or TRUNCATED and none. -/
def pbLiteralStep (n : Nat) (st : StripState) : StripState :=
  if st.bytes.length < n then st.fail .truncated
  else (st.emit (st.bytes.take n)).skip (8 * n)

/-- A repeat of `n` copies of the next byte (R265), or TRUNCATED. -/
def pbRepeatStep (n : Nat) (st : StripState) : StripState :=
  match st.bytes with
  | [] => st.fail .truncated
  | v :: _ => (st.emit (List.replicate n v)).skip 8

/-- PB_LITERAL, control byte `n`: `n` + 1 bytes (R262). -/
def execPbLiteral (n : BitVec 7) (s : State) : Outcome State Fault Refusal :=
  onPackBits s (pbLiteralStep (n.toNat + 1))

/-- PB_NOP (R263). -/
def execPbNop (s : State) : Outcome State Fault Refusal :=
  onPackBits s id

/-- PB_REPEAT, control byte `c` = 0x80 + `n`: 257 - `c` copies (R265). -/
def execPbRepeat (n : BitVec 7) (s : State) : Outcome State Fault Refusal :=
  onPackBits s (pbRepeatStep (257 - (0x80 + n.toNat)))

/-- `INFLATE` on the bytes `rest` after those of `seen` (R410, R412): the bytes produced until the primitive stops,
and whether it stopped at the end of the zlib stream. Bytes after that end are not looked at, and bytes that end
before the stream does are a failure. -/
def inflateFrom (P : Params) : List Byte → List Byte → List Byte × Bool
  | _, [] => ([], false)
  | seen, b :: rest =>
    match P.inflateByte seen b with
    | (out, .ends) => (out, true)
    | (out, .faults) => (out, false)
    | (out, .goesOn) =>
      let (more, ok) := inflateFrom P (seen ++ [b]) rest
      (out ++ more, ok)

/-- `INFLATE(B)` (R410): the output bytes, and whether the zlib stream ended correctly. -/
def inflate (P : Params) (b : List Byte) : List Byte × Bool :=
  inflateFrom P [] b

/-- `Decode_Deflate` before the predictor (R412): the inflate primitive on the whole strip. -/
def zlibStep (P : Params) (st : StripState) : StripState :=
  let (b, ok) := inflate P st.lin
  (st.emit b).stop (if ok then .done else .error .inflate)

/-- ZLIB_STREAM (R412). -/
def execZlibStream (s : State) : Outcome State Fault Refusal :=
  onDeflate s (zlibStep Config.params)

end Sys2Proof.Machine
end

