-- ==== Sys2Proof/Machine/Predictor.lean ====
section
/-! DEFINITION. The horizontal-differencing predictor: spec/42_lzw.md R170 to R173. -/

namespace Sys2Proof.Machine

open Sys2Proof

/-- The complete groups of `n` bytes of a list, in order; an incomplete last group is dropped. The first
argument bounds their number. -/
def groupsAux (n : Nat) : Nat → List Byte → List (List Byte)
  | 0, _ => []
  | k + 1, l => if l.length < n then [] else l.take n :: groupsAux n k (l.drop n)

/-- The complete groups of `n` bytes; no group where `n` is 0. -/
def groups (n : Nat) (l : List Byte) : List (List Byte) :=
  if n = 0 then [] else groupsAux n (l.length / n) l

/-- A sample's value from its bytes: big-endian when `mm`, else little-endian (R172). -/
def sampleOf (mm : Bool) (b : List Byte) : Nat :=
  (if mm then b else b.reverse).foldl (fun v x => 256 * v + x.toNat) 0

/-- The `n` bytes of a sample's value (R172). -/
def sampleBytes (mm : Bool) (n v : Nat) : List Byte :=
  let le := (List.range n).map fun j => BitVec.ofNat 8 (v / 256 ^ j)
  if mm then le.reverse else le

/-- The accumulation of R173 over the samples not yet reconstructed, after those of `done`: sample `i` adds
sample `i - st`, which is already reconstructed, modulo 2^bps; the first `st` samples stand. -/
def accumulate (bps st : Nat) (done : List Nat) : List Nat → List Nat
  | [] => done
  | x :: xs =>
    accumulate bps st
      (done ++ [if done.length < st then x else (x + done.getD (done.length - st) 0) % 2 ^ bps]) xs

/-- The stride of R171. -/
def Latched.stride (L : Latched) : Nat :=
  if L.planar then 1 else L.spp.toNat

/-- One row of R173: read as samples, accumulated, written back in the same byte order. -/
def predictRow (L : Latched) (row : List Byte) : List Byte :=
  let n := L.bps.toNat / 8
  ((accumulate L.bps.toNat L.stride [] ((groups n row).map (sampleOf L.mm))).map
    (sampleBytes L.mm n)).flatten

/-- `Predict` of R173 on the bytes of a stream: every complete row of BPR bytes; the incomplete last row is
dropped. -/
def predict (L : Latched) (raw : List Byte) : List Byte :=
  ((groups L.bpr.toNat raw).map (predictRow L)).flatten

/-- `Post` of R165, R264 and R412: the predictor where PREDICTOR = 2. -/
def post (L : Latched) (raw : List Byte) : List Byte :=
  if L.predictor.toNat = 2 then predict L raw else raw

/-- The configuration checks of R170. -/
def predictorChecks (L : Latched) : List (Bool × ErrKind) :=
  if L.predictor.toNat = 2 then
    [ (decide (L.bps.toNat = 8 ∨ L.bps.toNat = 16 ∨ L.bps.toNat = 32), .predictor),
      (decide (L.bpr.toNat % (L.bps.toNat / 8) = 0), .bpr) ]
  else []

end Sys2Proof.Machine
end

