-- ==== Sys2Proof/Machine/Fetch.lean ====
section
/-! DEFINITION. Fetching the next symbol of a strip: which format the unit reads next (spec/30_encoding.md R83 to
R91), where its stream may end, and what bits that form no symbol are. -/

namespace Sys2Proof.Machine

open Sys2Proof Host

/-- What a unit reads next: a symbol, its own bits consumed (log 22), or something that is no symbol and is
already done (the end of the stream, bits that form no code word, or a raw LogLuv24 row). -/
inductive Fetched where
  | symbol (i : Instr) (st : StripState)
  | quiet (st : StripState)
  deriving DecidableEq, Repr

/-- A symbol of a format from a window of `n` bits at the cursor; bits that form no code word end the stream
with `bad`, and an input that ends inside one with TRUNCATED (R134). -/
def fetchBits (f : Fmt) (lsb : Bool) (n : Nat) (bad : ErrKind) (st : StripState) : Fetched :=
  match decode f (peekBits lsb st.lin n st.bc) with
  | .found i used => .symbol i (st.skip used)
  | .bad => .quiet (st.fail bad)
  | .short => .quiet (st.fail .truncated)

/-- The next LZW code; fewer bits than its width end the stream (spec/42_lzw.md R163, R164). -/
def fetchLzw (z : LzwState) (st : StripState) : Fetched :=
  if st.remaining < z.nbits then .quiet (st.stop .done)
  else fetchBits (.lzw z.old z.nbits z.nextFree z.prev.isSome) z.old z.nbits .lzwBadCode st

/-- The next PackBits control byte; the stream may end before one (spec/45_packbits.md R264). -/
def fetchPackBits (st : StripState) : Fetched :=
  if st.bytes = [] then .quiet (st.stop .done) else fetchBits .packBits false 8 .truncated st

/-! ### Fax -/

/-- A run code of a colour: at most 13 bits (spec/43_fax_mh.md R197). -/
def fetchRun (k : Colour) (st : StripState) : Fetched :=
  fetchBits (.mhRun k.pixel) st.cfg.fillLsb 13 .faxBadCode st

/-- A mode code: at most 10 bits (spec/44_fax_read.md R224). -/
def fetchMode (st : StripState) : Fetched :=
  fetchBits .readMode st.cfg.fillLsb 10 .faxBadCode st

/-- The end test of R236 and R238: the next eleven bits, or those that remain, are all 0. -/
def zerosAhead (st : StripState) : Bool :=
  (peekBits st.cfg.fillLsb st.lin 11 st.bc).all (!·)

/-- The next fax symbol, by the place in the rows and their framing (R200, R232 to R240). A row's first run is
white: the colour is white wherever a row begins (R199). -/
def fetchFax (f : FaxState) (st : StripState) : Fetched :=
  match f.phase with
  | .rowStart =>
    if st.cfg.unit? = some .g4 then
      if zerosAhead st then .quiet (st.stop .done) else fetchMode st
    else if st.byteAlign.remaining = 0 then .quiet (st.byteAlign.stop .done)
    else fetchRun f.runColour st.byteAlign
  | .seekEol =>
    match decode .eol (peekBits st.cfg.fillLsb st.lin st.remaining st.bc) with
    | .found i used => .symbol i (st.skip used)
    | _ => .quiet (st.stop .done)
  | .tag =>
    if st.remaining = 0 then .quiet (st.stop .done) else fetchBits .tag st.cfg.fillLsb 1 .truncated st
  | .rowTest twoD =>
    if zerosAhead st then .quiet (st.stop .done)
    else if twoD then fetchMode st
    else fetchRun f.runColour st
  | .run1D | .hRun1 | .hRun2 => fetchRun f.runColour st
  | .mode => fetchMode st

/-! ### LogLuv -/

/-- The next LogLuv control byte, or a raw row; the stream may end before a row's first byte (spec/46_logluv.md
R285, R286). -/
def fetchLogLuv (P : Params) (v : LogLuvState) (st : StripState) : Fetched :=
  if rawRows P st.cfg then .quiet (rawRowStep P st)
  else if st.bytes = [] then .quiet (if v.begun then st.fail .truncated else st.stop .done)
  else fetchBits .logLuv false 8 .truncated st

/-! ### JPEG -/

/-- The first byte that is no fill byte `FF`, and how many bytes it took, `n` before it. -/
def markerByte : Nat → List Byte → Option (Byte × Nat)
  | _, [] => none
  | n, m :: rest => if m = 0xFF then markerByte (n + 1) rest else some (m, n + 1)

/-- A marker where `st.bytes` begins with `FF` (spec/47_jpeg.md R314, R333): fill bytes, then its code byte. An input
that holds no code byte ends the stream with `ended`, a code byte 0 with `zero`, and one that is no row of the opcode
table with `noRow` (log 15). -/
def fetchMarkerFF (ended zero noRow : ErrKind) (rest : List Byte) (st : StripState) : Fetched :=
  match markerByte 1 rest with
  | none => .quiet (st.fail ended)
  | some (m, n) =>
    if m = 0 then .quiet (st.fail zero)
    else match markerInstr m with
      | some i => .symbol i (st.skip (8 * n))
      | none => .quiet (st.fail noRow)

/-- `NextMarker` (R314). -/
def fetchMarker (noRow : ErrKind) (st : StripState) : Fetched :=
  match st.bytes with
  | [] => .quiet (st.fail .truncated)
  | b :: rest =>
    if b = 0xFF then fetchMarkerFF .truncated .jpegBadMarker noRow rest st else .quiet (st.fail .jpegBadMarker)

/-- The next entropy-coded symbol from the entropy bit buffer, bytes being added to it as they are needed: plain
ones here, a stuffed one by JPEG_STUFF; a marker there is an error, which its own meaning raises (R138, R325,
R333). A last `FF` with no code byte after it is a marker reached, not the end of the input (R138), and no EOI, so it
is JPEG_BAD_DATA (R333, log 16). The first argument bounds the bytes added. -/
def fetchEntropy (f : Fmt) : Nat → JpegState → StripState → Fetched
  | n, j, st =>
    match decode f j.ebuf with
    | .found i used => .symbol i { st with codec := .jpeg { j with ebuf := j.ebuf.drop used } }
    | .bad => .quiet (st.fail .jpegBadHuff)
    | .short =>
      match n, st.bytes with
      | n + 1, b :: rest =>
        if b ≠ 0xFF then fetchEntropy f n { j with ebuf := j.ebuf ++ cw 8 b.toNat } (st.skip 8)
        else if rest.head? = some 0 then .symbol .jpegStuff ({ st with codec := .jpeg j }.skip 16)
        else fetchMarkerFF .jpegBadData .jpegBadData .jpegBadData rest st
      | _, _ => .quiet (st.fail .truncated)

/-- The format of the next entropy-coded symbol: the DC or AC table of the component the block belongs to
(R330, R331). -/
def entropyFmt (j : JpegState) : Option Fmt :=
  j.scanComp?.bind fun c =>
    if j.zz = [] then (j.tables.dc.get c.td).map Fmt.dcSymbol
    else if j.zz.length < 64 then (j.tables.ac.get c.ta).map fun h => Fmt.acSymbol h j.zz.length
    else none

/-- SOI, the first marker: the first two bytes must be `FF D8` (R316, log 17). -/
def fetchSoi (st : StripState) : Fetched :=
  match st.bytes with
  | [] => .quiet (st.fail .truncated)
  | b0 :: rest =>
    if b0 = 0xFF ∧ rest.head? = some 0xD8 then .symbol .jpegSoi (st.skip 16) else .quiet (st.fail .jpegNoSoi)

/-- The next JPEG symbol, by the parser phase (R312, R370). -/
def fetchJpeg (j : JpegState) (st : StripState) : Fetched :=
  match j.phase with
  | .soi => fetchSoi st
  | .header | .tail => fetchMarker .jpegBadMarker st
  | .restart => fetchMarker .jpegRestart st
  | .entropy =>
    match entropyFmt j with
    | some f => fetchEntropy f (st.bytes.length + 1) j st
    | none => .quiet (st.fail .jpegNoTable)

/-- What the unit of a strip reads next. -/
def fetch (P : Params) (st : StripState) : Fetched :=
  match st.codec with
  | .idle => .quiet (st.stop .done)
  | .lzw z => fetchLzw z st
  | .packBits => fetchPackBits st
  | .fax f => fetchFax f st
  | .logLuv v => fetchLogLuv P v st
  | .jpeg j => fetchJpeg j st
  | .deflate => .symbol .zlibStream st

end Sys2Proof.Machine
end

