-- ==== Sys2Proof/Machine/Symbols.lean ====
section
/-! DEFINITION. The stream of a strip: what each symbol means to the unit that reads it, and the units run to the end
of their stream (spec/10_state.md R42, spec/60_exceptions.md R430). -/

namespace Sys2Proof.Machine

open Sys2Proof Host

/-- The meaning of a stream symbol, as DECODE and the unit use it: that of `exec`. A command is no symbol. -/
def execSymbol (i : Instr) (s : State) : Outcome State Fault Refusal :=
  match i with
  | .nop => .refused .symbolOutOfPlace
  | .reset => .refused .symbolOutOfPlace
  | .sliceBegin => .refused .symbolOutOfPlace
  | .stripBegin => .refused .symbolOutOfPlace
  | .decode => .refused .symbolOutOfPlace
  | .loadJpegTables => .refused .symbolOutOfPlace
  | .upsampleYcbcr => .refused .symbolOutOfPlace
  | .stripEnd => .refused .symbolOutOfPlace
  | .reservedOpc _ => .refused .symbolOutOfPlace
  | .reservedBits _ _ => .refused .symbolOutOfPlace
  | .lzwLiteral c => execLzwLiteral c s
  | .lzwClear => execLzwClear s
  | .lzwEoi => execLzwEoi s
  | .lzwDict c => execLzwDict c s
  | .lzwKwkwk c => execLzwKwkwk c s
  | .lzwBad c => execLzwBad c s
  | .pbLiteral n => execPbLiteral n s
  | .pbNop => execPbNop s
  | .pbRepeat n => execPbRepeat n s
  | .faxEol => execFaxEol s
  | .readP => execReadP s
  | .readH => execReadH s
  | .readV0 => execReadV0 s
  | .readVr1 => execReadVr1 s
  | .readVr2 => execReadVr2 s
  | .readVr3 => execReadVr3 s
  | .readVl1 => execReadVl1 s
  | .readVl2 => execReadVl2 s
  | .readVl3 => execReadVl3 s
  | .readExt e => execReadExt e s
  | .g3Tag t => execG3Tag t s
  | .jpegSoi => execJpegSoi s
  | .jpegEoi => execJpegEoi s
  | .jpegDqt => execJpegDqt s
  | .jpegDht => execJpegDht s
  | .jpegDri => execJpegDri s
  | .jpegSof0 => execJpegSof0 s
  | .jpegSof1 => execJpegSof1 s
  | .jpegSos => execJpegSos s
  | .jpegRstm m => execJpegRstm m s
  | .jpegAppn n => execJpegAppn n s
  | .jpegCom => execJpegCom s
  | .jpegSof2 => execJpegSof2 s
  | .jpegSof3 => execJpegSof3 s
  | .jpegSof5 => execJpegSof5 s
  | .jpegSof6 => execJpegSof6 s
  | .jpegSof7 => execJpegSof7 s
  | .jpegJpg => execJpegJpg s
  | .jpegSof9 => execJpegSof9 s
  | .jpegSof10 => execJpegSof10 s
  | .jpegSof11 => execJpegSof11 s
  | .jpegDac => execJpegDac s
  | .jpegSof13 => execJpegSof13 s
  | .jpegSof14 => execJpegSof14 s
  | .jpegSof15 => execJpegSof15 s
  | .jpegDhp => execJpegDhp s
  | .jpegExp => execJpegExp s
  | .jpegDnl => execJpegDnl s
  | .jpegTem => execJpegTem s
  | .jpegRes c => execJpegRes c s
  | .jpegStuff => execJpegStuff s
  | .jpegDcSymbol t v => execJpegDcSymbol t v s
  | .jpegAcSymbol rs v => execJpegAcSymbol rs v s
  | .logluvRun n => execLogluvRun n s
  | .logluvLiteral n => execLogluvLiteral n s
  | .zlibStream => execZlibStream s
  | .mhWTerm0 => execMhWTerm0 s
  | .mhWTerm1 => execMhWTerm1 s
  | .mhWTerm2 => execMhWTerm2 s
  | .mhWTerm3 => execMhWTerm3 s
  | .mhWTerm4 => execMhWTerm4 s
  | .mhWTerm5 => execMhWTerm5 s
  | .mhWTerm6 => execMhWTerm6 s
  | .mhWTerm7 => execMhWTerm7 s
  | .mhWTerm8 => execMhWTerm8 s
  | .mhWTerm9 => execMhWTerm9 s
  | .mhWTerm10 => execMhWTerm10 s
  | .mhWTerm11 => execMhWTerm11 s
  | .mhWTerm12 => execMhWTerm12 s
  | .mhWTerm13 => execMhWTerm13 s
  | .mhWTerm14 => execMhWTerm14 s
  | .mhWTerm15 => execMhWTerm15 s
  | .mhWTerm16 => execMhWTerm16 s
  | .mhWTerm17 => execMhWTerm17 s
  | .mhWTerm18 => execMhWTerm18 s
  | .mhWTerm19 => execMhWTerm19 s
  | .mhWTerm20 => execMhWTerm20 s
  | .mhWTerm21 => execMhWTerm21 s
  | .mhWTerm22 => execMhWTerm22 s
  | .mhWTerm23 => execMhWTerm23 s
  | .mhWTerm24 => execMhWTerm24 s
  | .mhWTerm25 => execMhWTerm25 s
  | .mhWTerm26 => execMhWTerm26 s
  | .mhWTerm27 => execMhWTerm27 s
  | .mhWTerm28 => execMhWTerm28 s
  | .mhWTerm29 => execMhWTerm29 s
  | .mhWTerm30 => execMhWTerm30 s
  | .mhWTerm31 => execMhWTerm31 s
  | .mhWTerm32 => execMhWTerm32 s
  | .mhWTerm33 => execMhWTerm33 s
  | .mhWTerm34 => execMhWTerm34 s
  | .mhWTerm35 => execMhWTerm35 s
  | .mhWTerm36 => execMhWTerm36 s
  | .mhWTerm37 => execMhWTerm37 s
  | .mhWTerm38 => execMhWTerm38 s
  | .mhWTerm39 => execMhWTerm39 s
  | .mhWTerm40 => execMhWTerm40 s
  | .mhWTerm41 => execMhWTerm41 s
  | .mhWTerm42 => execMhWTerm42 s
  | .mhWTerm43 => execMhWTerm43 s
  | .mhWTerm44 => execMhWTerm44 s
  | .mhWTerm45 => execMhWTerm45 s
  | .mhWTerm46 => execMhWTerm46 s
  | .mhWTerm47 => execMhWTerm47 s
  | .mhWTerm48 => execMhWTerm48 s
  | .mhWTerm49 => execMhWTerm49 s
  | .mhWTerm50 => execMhWTerm50 s
  | .mhWTerm51 => execMhWTerm51 s
  | .mhWTerm52 => execMhWTerm52 s
  | .mhWTerm53 => execMhWTerm53 s
  | .mhWTerm54 => execMhWTerm54 s
  | .mhWTerm55 => execMhWTerm55 s
  | .mhWTerm56 => execMhWTerm56 s
  | .mhWTerm57 => execMhWTerm57 s
  | .mhWTerm58 => execMhWTerm58 s
  | .mhWTerm59 => execMhWTerm59 s
  | .mhWTerm60 => execMhWTerm60 s
  | .mhWTerm61 => execMhWTerm61 s
  | .mhWTerm62 => execMhWTerm62 s
  | .mhWTerm63 => execMhWTerm63 s
  | .mhWMakeup64 => execMhWMakeup64 s
  | .mhWMakeup128 => execMhWMakeup128 s
  | .mhWMakeup192 => execMhWMakeup192 s
  | .mhWMakeup256 => execMhWMakeup256 s
  | .mhWMakeup320 => execMhWMakeup320 s
  | .mhWMakeup384 => execMhWMakeup384 s
  | .mhWMakeup448 => execMhWMakeup448 s
  | .mhWMakeup512 => execMhWMakeup512 s
  | .mhWMakeup576 => execMhWMakeup576 s
  | .mhWMakeup640 => execMhWMakeup640 s
  | .mhWMakeup704 => execMhWMakeup704 s
  | .mhWMakeup768 => execMhWMakeup768 s
  | .mhWMakeup832 => execMhWMakeup832 s
  | .mhWMakeup896 => execMhWMakeup896 s
  | .mhWMakeup960 => execMhWMakeup960 s
  | .mhWMakeup1024 => execMhWMakeup1024 s
  | .mhWMakeup1088 => execMhWMakeup1088 s
  | .mhWMakeup1152 => execMhWMakeup1152 s
  | .mhWMakeup1216 => execMhWMakeup1216 s
  | .mhWMakeup1280 => execMhWMakeup1280 s
  | .mhWMakeup1344 => execMhWMakeup1344 s
  | .mhWMakeup1408 => execMhWMakeup1408 s
  | .mhWMakeup1472 => execMhWMakeup1472 s
  | .mhWMakeup1536 => execMhWMakeup1536 s
  | .mhWMakeup1600 => execMhWMakeup1600 s
  | .mhWMakeup1664 => execMhWMakeup1664 s
  | .mhWMakeup1728 => execMhWMakeup1728 s
  | .mhBTerm0 => execMhBTerm0 s
  | .mhBTerm1 => execMhBTerm1 s
  | .mhBTerm2 => execMhBTerm2 s
  | .mhBTerm3 => execMhBTerm3 s
  | .mhBTerm4 => execMhBTerm4 s
  | .mhBTerm5 => execMhBTerm5 s
  | .mhBTerm6 => execMhBTerm6 s
  | .mhBTerm7 => execMhBTerm7 s
  | .mhBTerm8 => execMhBTerm8 s
  | .mhBTerm9 => execMhBTerm9 s
  | .mhBTerm10 => execMhBTerm10 s
  | .mhBTerm11 => execMhBTerm11 s
  | .mhBTerm12 => execMhBTerm12 s
  | .mhBTerm13 => execMhBTerm13 s
  | .mhBTerm14 => execMhBTerm14 s
  | .mhBTerm15 => execMhBTerm15 s
  | .mhBTerm16 => execMhBTerm16 s
  | .mhBTerm17 => execMhBTerm17 s
  | .mhBTerm18 => execMhBTerm18 s
  | .mhBTerm19 => execMhBTerm19 s
  | .mhBTerm20 => execMhBTerm20 s
  | .mhBTerm21 => execMhBTerm21 s
  | .mhBTerm22 => execMhBTerm22 s
  | .mhBTerm23 => execMhBTerm23 s
  | .mhBTerm24 => execMhBTerm24 s
  | .mhBTerm25 => execMhBTerm25 s
  | .mhBTerm26 => execMhBTerm26 s
  | .mhBTerm27 => execMhBTerm27 s
  | .mhBTerm28 => execMhBTerm28 s
  | .mhBTerm29 => execMhBTerm29 s
  | .mhBTerm30 => execMhBTerm30 s
  | .mhBTerm31 => execMhBTerm31 s
  | .mhBTerm32 => execMhBTerm32 s
  | .mhBTerm33 => execMhBTerm33 s
  | .mhBTerm34 => execMhBTerm34 s
  | .mhBTerm35 => execMhBTerm35 s
  | .mhBTerm36 => execMhBTerm36 s
  | .mhBTerm37 => execMhBTerm37 s
  | .mhBTerm38 => execMhBTerm38 s
  | .mhBTerm39 => execMhBTerm39 s
  | .mhBTerm40 => execMhBTerm40 s
  | .mhBTerm41 => execMhBTerm41 s
  | .mhBTerm42 => execMhBTerm42 s
  | .mhBTerm43 => execMhBTerm43 s
  | .mhBTerm44 => execMhBTerm44 s
  | .mhBTerm45 => execMhBTerm45 s
  | .mhBTerm46 => execMhBTerm46 s
  | .mhBTerm47 => execMhBTerm47 s
  | .mhBTerm48 => execMhBTerm48 s
  | .mhBTerm49 => execMhBTerm49 s
  | .mhBTerm50 => execMhBTerm50 s
  | .mhBTerm51 => execMhBTerm51 s
  | .mhBTerm52 => execMhBTerm52 s
  | .mhBTerm53 => execMhBTerm53 s
  | .mhBTerm54 => execMhBTerm54 s
  | .mhBTerm55 => execMhBTerm55 s
  | .mhBTerm56 => execMhBTerm56 s
  | .mhBTerm57 => execMhBTerm57 s
  | .mhBTerm58 => execMhBTerm58 s
  | .mhBTerm59 => execMhBTerm59 s
  | .mhBTerm60 => execMhBTerm60 s
  | .mhBTerm61 => execMhBTerm61 s
  | .mhBTerm62 => execMhBTerm62 s
  | .mhBTerm63 => execMhBTerm63 s
  | .mhBMakeup64 => execMhBMakeup64 s
  | .mhBMakeup128 => execMhBMakeup128 s
  | .mhBMakeup192 => execMhBMakeup192 s
  | .mhBMakeup256 => execMhBMakeup256 s
  | .mhBMakeup320 => execMhBMakeup320 s
  | .mhBMakeup384 => execMhBMakeup384 s
  | .mhBMakeup448 => execMhBMakeup448 s
  | .mhBMakeup512 => execMhBMakeup512 s
  | .mhBMakeup576 => execMhBMakeup576 s
  | .mhBMakeup640 => execMhBMakeup640 s
  | .mhBMakeup704 => execMhBMakeup704 s
  | .mhBMakeup768 => execMhBMakeup768 s
  | .mhBMakeup832 => execMhBMakeup832 s
  | .mhBMakeup896 => execMhBMakeup896 s
  | .mhBMakeup960 => execMhBMakeup960 s
  | .mhBMakeup1024 => execMhBMakeup1024 s
  | .mhBMakeup1088 => execMhBMakeup1088 s
  | .mhBMakeup1152 => execMhBMakeup1152 s
  | .mhBMakeup1216 => execMhBMakeup1216 s
  | .mhBMakeup1280 => execMhBMakeup1280 s
  | .mhBMakeup1344 => execMhBMakeup1344 s
  | .mhBMakeup1408 => execMhBMakeup1408 s
  | .mhBMakeup1472 => execMhBMakeup1472 s
  | .mhBMakeup1536 => execMhBMakeup1536 s
  | .mhBMakeup1600 => execMhBMakeup1600 s
  | .mhBMakeup1664 => execMhBMakeup1664 s
  | .mhBMakeup1728 => execMhBMakeup1728 s
  | .mhExtMakeup1792 => execMhExtMakeup1792 s
  | .mhExtMakeup1856 => execMhExtMakeup1856 s
  | .mhExtMakeup1920 => execMhExtMakeup1920 s
  | .mhExtMakeup1984 => execMhExtMakeup1984 s
  | .mhExtMakeup2048 => execMhExtMakeup2048 s
  | .mhExtMakeup2112 => execMhExtMakeup2112 s
  | .mhExtMakeup2176 => execMhExtMakeup2176 s
  | .mhExtMakeup2240 => execMhExtMakeup2240 s
  | .mhExtMakeup2304 => execMhExtMakeup2304 s
  | .mhExtMakeup2368 => execMhExtMakeup2368 s
  | .mhExtMakeup2432 => execMhExtMakeup2432 s
  | .mhExtMakeup2496 => execMhExtMakeup2496 s
  | .mhExtMakeup2560 => execMhExtMakeup2560 s

/-- One symbol, or one action of the unit that is no symbol, of a stream that has not ended. -/
def unitStep (s : State) : Outcome State Fault Refusal :=
  match fetch Config.params s.strip with
  | .quiet st => .next { s with strip := st }
  | .symbol i st => execSymbol i { s with strip := st }

/-- `unitStep` as DECODE uses it: a stream that has ended stays as it is. No fetched symbol is refused (log 21),
so that the last arm is not met. -/
def advance (s : State) : State :=
  match s.strip.term with
  | some _ => s
  | none =>
    match unitStep s with
    | .next t => t
    | _ => { s with strip := s.strip.stop .done }

/-- `n` steps of the unit, or up to its terminator. -/
def drain : Nat → State → State
  | 0, s => s
  | n + 1, s =>
    match s.strip.term with
    | some _ => s
    | none => drain n (advance s)

/-- The bits waiting in the entropy bit buffer. -/
def CodecState.buffered (c : CodecState) : Nat :=
  match c with
  | .jpeg j => j.ebuf.length
  | _ => 0

/-- A bound on the steps up to the terminator: each symbol takes at least one of the bits that are left (R430,
log 32). -/
def StripState.fuel (st : StripState) : Nat :=
  st.remaining + st.codec.buffered + 1

/-- The strip with its stream computed to the end. -/
def State.finished (s : State) : StripState :=
  (drain s.strip.fuel s).strip

/-- The bytes of a strip's stream that its unit has emitted so far, after the predictor (R42, R165). -/
def StripState.output (st : StripState) : List Byte :=
  post st.cfg st.emitted

/-- `S` of R42: the bytes of the decoded stream before its terminator. -/
def State.streamBytes (s : State) : List Byte :=
  s.finished.output

/-- `terminator(S)` of R42. -/
def State.streamEnd (s : State) : Terminator :=
  s.finished.term.getD .done

/-- The unit run only as far as the first `need` bytes of the stream: the codec state that R42 says the
hardware then holds. -/
def drainUntil (need : Nat) : Nat → State → State
  | 0, s => s
  | n + 1, s =>
    match s.strip.term with
    | some _ => s
    | none => if need ≤ s.strip.output.length then s else drainUntil need n (advance s)

end Sys2Proof.Machine
end

