-- ==== Sys2Proof/Machine/Commands.lean ====
section
/-! DEFINITION. The commands: spec/40_commands.md R100 to R111. Every one passes `State.unlessLatched`, step 3 of R100, but
NOP, RESET and SLICE_BEGIN, which are accepted while an error is latched. -/

namespace Sys2Proof.Machine

open Sys2Proof Host

/-! ### NOP, RESET, SLICE_BEGIN, STRIP_END -/

/-- NOP (R101). -/
def execNop (s : State) : Outcome State Fault Refusal :=
  .next s

/-- Every state of the block at its reset value (R105, R450); IN and OUT hold fresh free values. The model's own
fields of the host's side stay (log 11). -/
def State.resetBlock (s : State) : State :=
  { State.reset with
    hostQueue := s.hostQueue
    readBack := s.readBack
    focus := s.focus
    epoch := s.epoch + 1
    draws := s.draws }

/-- RESET (R105). -/
def execReset (s : State) : Outcome State Fault Refusal :=
  .next s.resetBlock

/-- SLICE_BEGIN's effect (R103): the latch, the strip and the table set cleared, a slice begun. -/
def State.beginSlice (s : State) : State :=
  { s.clearLatch.dropStrip with
    outValid := false
    outLen := 0
    tables := JpegTables.reset
    tablesLoaded := false
    sliceActive := true }

/-- SLICE_BEGIN (R103). -/
def execSliceBegin (s : State) : Outcome State Fault Refusal :=
  .next s.beginSlice

/-- STRIP_END (R108). -/
def execStripEnd (s : State) : Outcome State Fault Refusal :=
  .next (s.unlessLatched State.dropStrip)

/-! ### STRIP_BEGIN -/

/-- The predictor is legal for the codec (R34). -/
def Latched.predictorLegal (L : Latched) : Bool :=
  decide (L.predictor.toNat = 1) ||
    (decide (L.predictor.toNat = 2) &&
      decide (L.codec.toNat = 5 ∨ L.codec.toNat = 8 ∨ L.codec.toNat = 32946 ∨ L.codec.toNat = 32773))

/-- The unit's own checks (R39 step 7). -/
def unitChecks (P : Params) (L : Latched) : List (Bool × ErrKind) :=
  match L.unit? with
  | some .mh | some .g3 | some .g4 => faxChecks P L
  | some .lzw | some .packBits | some .deflate => predictorChecks L
  | some .logL16 | some .logLuv32 | some .logLuv24 => logLuvChecks P L
  | some .jpeg => jpegChecks P L
  | none => []

/-- The configuration checks of STRIP_BEGIN, in order (R39). -/
def stripChecks (P : Params) (L : Latched) : List (Bool × ErrKind) :=
  [ (L.unit?.isSome, .codec),
    (decide (L.inLen.toNat ≤ P.maxInBytes), .inLen),
    (decide (L.bpr ≠ 0), .bpr),
    (decide (L.spp ≠ 0), .spp),
    (decide (L.bps ≠ 0), .bps),
    (L.predictorLegal, .predictor) ] ++ unitChecks P L

/-- The codec state of a new strip (R46 and the units' rules). -/
def CodecState.init (L : Latched) (lin : List Byte) (T : JpegTables) : CodecState :=
  match L.unit? with
  | some .mh | some .g3 | some .g4 => .fax (FaxState.init L)
  | some .lzw => .lzw (LzwState.init lin)
  | some .packBits => .packBits
  | some .deflate => .deflate
  | some .logL16 | some .logLuv32 | some .logLuv24 => .logLuv LogLuvState.init
  | some .jpeg => .jpeg (JpegState.init false T)
  | none => .idle

/-- A strip before its first symbol (R40, R46). -/
def StripState.init (L : Latched) (lin : List Byte) (T : JpegTables) : StripState where
  cfg := L
  lin := lin
  bc := 0
  emitted := []
  term := none
  codec := CodecState.init L lin T

/-- STRIP_BEGIN's effect (R102). -/
def State.beginStrip (P : Params) (s : State) : State :=
  if !s.sliceActive then s.raiseOther .noSlice
  else
    let s := { s with stripActive := false, pos := 0, lzwOld := false }
    let L := s.regs.latchAll
    match firstFailure (stripChecks P L) with
    | some k => s.raiseOther k
    | none =>
      let lin := s.inBytes L.inLen.toNat
      { s with
        strip := StripState.init L lin s.tables
        lzwOld := decide (L.codec.toNat = 5) && oldVariant lin
        stripActive := true }

/-- STRIP_BEGIN (R102). -/
def execStripBegin (s : State) : Outcome State Fault Refusal :=
  .next (s.unlessLatched (State.beginStrip Config.params))

/-! ### DECODE -/

/-- `occ`: the bytes DECODE asks for, a mathematical product (R104). -/
def State.occ (s : State) : Nat :=
  (s.regs.read .rows).toNat * s.strip.cfg.bpr.toNat

/-- The error of a stream that does not hold the bytes asked for: its own, or TRUNCATED where it ends normally
(R104). -/
def Terminator.failure : Terminator → ErrKind
  | .done => .truncated
  | .error k => k

/-- DECODE's effect (R104). -/
def State.decodeRows (P : Params) (s : State) : State :=
  let occ := s.occ
  if !s.stripActive then s.raiseDecode .noStrip
  else if P.maxOutBytes < occ ∨ 2 ^ 32 - 1 < s.pos.toNat + occ then s.raiseDecode .rowsRange
  else
    let bytes := s.streamBytes
    if s.pos.toNat + occ ≤ bytes.length then
      let t := s.deliver ((bytes.drop s.pos.toNat).take occ)
      { t with
        pos := s.pos + BitVec.ofNat 32 occ
        strip := (drainUntil (s.pos.toNat + occ) s.strip.fuel s).strip }
    else (s.spoilOut occ).raiseStream s.streamEnd.failure bytes.length

/-- DECODE (R104). -/
def execDecode (s : State) : Outcome State Fault Refusal :=
  .next (s.unlessLatched (State.decodeRows Config.params))

/-! ### LOAD_JPEG_TABLES -/

/-- A tables stream as a strip of its own (R340): the same parser, in a stream of tables only. -/
def StripState.tablesStream (lin : List Byte) (T : JpegTables) : StripState :=
  { StripState.reset with lin, codec := .jpeg (JpegState.init true T) }

/-- `ParseTables` (R340), run by the JPEG unit beside the strip (log 30). -/
def State.parseTables (s : State) (lin : List Byte) : Except ErrKind JpegTables :=
  let st := { s with strip := StripState.tablesStream lin s.tables }.finished
  match st.term, st.codec with
  | some .done, .jpeg j => .ok j.tables
  | some (.error k), _ => .error k
  | _, _ => .error .truncated

/-- LOAD_JPEG_TABLES's effect (R106). -/
def State.loadTables (P : Params) (s : State) : State :=
  let inLen := (s.regs.read .inLen).toNat
  if !s.sliceActive then s.raiseOther .noSlice
  else if s.stripActive then s.raiseOther .stripActive
  else if P.maxInBytes < inLen then s.raiseOther .inLen
  else match s.parseTables (s.inBytes inLen) with
    | .error k => s.raiseOther k
    | .ok T => { s with tables := T, tablesLoaded := true }

/-- LOAD_JPEG_TABLES (R106). -/
def execLoadJpegTables (s : State) : Outcome State Fault Refusal :=
  .next (s.unlessLatched (State.loadTables Config.params))

/-! ### UPSAMPLE_YCBCR -/

/-- The operands of UPSAMPLE_YCBCR, read live (spec/48_ycbcr.md R383). -/
def Regs.upsampling (r : Regs) : Upsampling where
  w := (r.read .width).toNat
  h := (r.read .height).toNat
  hs := r.hs
  vs := r.vs
  posn := r.posn
  raw := r.upsRaw

/-- The checks of UPSAMPLE_YCBCR, in order (spec/48_ycbcr.md R386). -/
def upsampleChecks (P : Params) (r : Regs) : List (Bool × ErrKind) :=
  let u := r.upsampling
  [ (decide ((r.read .inLen).toNat ≤ P.maxInBytes), .inLen),
    (decide ((u.hs = 1 ∨ u.hs = 2 ∨ u.hs = 4) ∧ (u.vs = 1 ∨ u.vs = 2 ∨ u.vs = 4)) &&
      decide (u.posn = 1 ∨ u.posn = 2), .yccSub),
    (decide (1 ≤ u.w ∧ u.w ≤ P.maxWidth), .width),
    (decide (1 ≤ u.h ∧ 3 * u.w * u.h ≤ P.maxOutBytes), .height),
    (u.raw || r.coef.ok, .yccCoef) ]

/-- UPSAMPLE_YCBCR's effect (R107). -/
def State.upsample (P : Params) (s : State) : State :=
  let u := s.regs.upsampling
  if s.stripActive then s.raiseOther .stripActive
  else match firstFailure (upsampleChecks P s.regs) with
    | some k => s.raiseOther k
    | none =>
      match u.run s.regs.coef (s.inBytes (s.regs.read .inLen).toNat) with
      | none => (s.spoilOut (3 * u.w * u.h)).raiseOther .truncated
      | some b => s.deliver b

/-- UPSAMPLE_YCBCR (R107). -/
def execUpsampleYcbcr (s : State) : Outcome State Fault Refusal :=
  .next (s.unlessLatched (State.upsample Config.params))

/-! ### Reserved command words -/

/-- A reserved opcode (R109): ILLEGAL_CMD with ERR = 0, else nothing. -/
def execReservedOpc (_low : BitVec 3) (s : State) : Outcome State Fault Refusal :=
  .next (s.unlessLatched fun s => s.raiseOther .illegalCmd)

/-- Reserved command-word bits set (R109, R421): RESERVED_BITS with ERR = 0, else nothing. -/
def execReservedBits (_r : BitVec 28) (_o : BitVec 4) (s : State) : Outcome State Fault Refusal :=
  .next (s.unlessLatched fun s => s.raiseOther .reservedBits)

end Sys2Proof.Machine
end

