-- ==== Sys2Proof/Machine/Dispatch.lean ====
section
/-! DEFINITION. The meaning of every instruction, one arm each. -/

namespace Sys2Proof.Machine

open Sys2Proof Host

/-- What an instruction does. -/
def exec (i : Instr) (s : State) : Host.Outcome State Fault Refusal :=
  match i with
  | .nop => Sys2Proof.Machine.execNop s
  | .reset => Sys2Proof.Machine.execReset s
  | .sliceBegin => Sys2Proof.Machine.execSliceBegin s
  | .stripBegin => Sys2Proof.Machine.execStripBegin s
  | .decode => Sys2Proof.Machine.execDecode s
  | .loadJpegTables => Sys2Proof.Machine.execLoadJpegTables s
  | .upsampleYcbcr => Sys2Proof.Machine.execUpsampleYcbcr s
  | .stripEnd => Sys2Proof.Machine.execStripEnd s
  | .reservedOpc low => Sys2Proof.Machine.execReservedOpc low s
  | .reservedBits r o => Sys2Proof.Machine.execReservedBits r o s
  | .lzwLiteral c => Sys2Proof.Machine.execLzwLiteral c s
  | .lzwClear => Sys2Proof.Machine.execLzwClear s
  | .lzwEoi => Sys2Proof.Machine.execLzwEoi s
  | .lzwDict c => Sys2Proof.Machine.execLzwDict c s
  | .lzwKwkwk c => Sys2Proof.Machine.execLzwKwkwk c s
  | .lzwBad c => Sys2Proof.Machine.execLzwBad c s
  | .pbLiteral n => Sys2Proof.Machine.execPbLiteral n s
  | .pbNop => Sys2Proof.Machine.execPbNop s
  | .pbRepeat n => Sys2Proof.Machine.execPbRepeat n s
  | .faxEol => Sys2Proof.Machine.execFaxEol s
  | .readP => Sys2Proof.Machine.execReadP s
  | .readH => Sys2Proof.Machine.execReadH s
  | .readV0 => Sys2Proof.Machine.execReadV0 s
  | .readVr1 => Sys2Proof.Machine.execReadVr1 s
  | .readVr2 => Sys2Proof.Machine.execReadVr2 s
  | .readVr3 => Sys2Proof.Machine.execReadVr3 s
  | .readVl1 => Sys2Proof.Machine.execReadVl1 s
  | .readVl2 => Sys2Proof.Machine.execReadVl2 s
  | .readVl3 => Sys2Proof.Machine.execReadVl3 s
  | .readExt e => Sys2Proof.Machine.execReadExt e s
  | .g3Tag t => Sys2Proof.Machine.execG3Tag t s
  | .jpegSoi => Sys2Proof.Machine.execJpegSoi s
  | .jpegEoi => Sys2Proof.Machine.execJpegEoi s
  | .jpegDqt => Sys2Proof.Machine.execJpegDqt s
  | .jpegDht => Sys2Proof.Machine.execJpegDht s
  | .jpegDri => Sys2Proof.Machine.execJpegDri s
  | .jpegSof0 => Sys2Proof.Machine.execJpegSof0 s
  | .jpegSof1 => Sys2Proof.Machine.execJpegSof1 s
  | .jpegSos => Sys2Proof.Machine.execJpegSos s
  | .jpegRstm m => Sys2Proof.Machine.execJpegRstm m s
  | .jpegAppn n => Sys2Proof.Machine.execJpegAppn n s
  | .jpegCom => Sys2Proof.Machine.execJpegCom s
  | .jpegSof2 => Sys2Proof.Machine.execJpegSof2 s
  | .jpegSof3 => Sys2Proof.Machine.execJpegSof3 s
  | .jpegSof5 => Sys2Proof.Machine.execJpegSof5 s
  | .jpegSof6 => Sys2Proof.Machine.execJpegSof6 s
  | .jpegSof7 => Sys2Proof.Machine.execJpegSof7 s
  | .jpegJpg => Sys2Proof.Machine.execJpegJpg s
  | .jpegSof9 => Sys2Proof.Machine.execJpegSof9 s
  | .jpegSof10 => Sys2Proof.Machine.execJpegSof10 s
  | .jpegSof11 => Sys2Proof.Machine.execJpegSof11 s
  | .jpegDac => Sys2Proof.Machine.execJpegDac s
  | .jpegSof13 => Sys2Proof.Machine.execJpegSof13 s
  | .jpegSof14 => Sys2Proof.Machine.execJpegSof14 s
  | .jpegSof15 => Sys2Proof.Machine.execJpegSof15 s
  | .jpegDhp => Sys2Proof.Machine.execJpegDhp s
  | .jpegExp => Sys2Proof.Machine.execJpegExp s
  | .jpegDnl => Sys2Proof.Machine.execJpegDnl s
  | .jpegTem => Sys2Proof.Machine.execJpegTem s
  | .jpegRes c => Sys2Proof.Machine.execJpegRes c s
  | .jpegStuff => Sys2Proof.Machine.execJpegStuff s
  | .jpegDcSymbol t v => Sys2Proof.Machine.execJpegDcSymbol t v s
  | .jpegAcSymbol rs v => Sys2Proof.Machine.execJpegAcSymbol rs v s
  | .logluvRun n => Sys2Proof.Machine.execLogluvRun n s
  | .logluvLiteral n => Sys2Proof.Machine.execLogluvLiteral n s
  | .zlibStream => Sys2Proof.Machine.execZlibStream s
  | .mhWTerm0 => Sys2Proof.Machine.execMhWTerm0 s
  | .mhWTerm1 => Sys2Proof.Machine.execMhWTerm1 s
  | .mhWTerm2 => Sys2Proof.Machine.execMhWTerm2 s
  | .mhWTerm3 => Sys2Proof.Machine.execMhWTerm3 s
  | .mhWTerm4 => Sys2Proof.Machine.execMhWTerm4 s
  | .mhWTerm5 => Sys2Proof.Machine.execMhWTerm5 s
  | .mhWTerm6 => Sys2Proof.Machine.execMhWTerm6 s
  | .mhWTerm7 => Sys2Proof.Machine.execMhWTerm7 s
  | .mhWTerm8 => Sys2Proof.Machine.execMhWTerm8 s
  | .mhWTerm9 => Sys2Proof.Machine.execMhWTerm9 s
  | .mhWTerm10 => Sys2Proof.Machine.execMhWTerm10 s
  | .mhWTerm11 => Sys2Proof.Machine.execMhWTerm11 s
  | .mhWTerm12 => Sys2Proof.Machine.execMhWTerm12 s
  | .mhWTerm13 => Sys2Proof.Machine.execMhWTerm13 s
  | .mhWTerm14 => Sys2Proof.Machine.execMhWTerm14 s
  | .mhWTerm15 => Sys2Proof.Machine.execMhWTerm15 s
  | .mhWTerm16 => Sys2Proof.Machine.execMhWTerm16 s
  | .mhWTerm17 => Sys2Proof.Machine.execMhWTerm17 s
  | .mhWTerm18 => Sys2Proof.Machine.execMhWTerm18 s
  | .mhWTerm19 => Sys2Proof.Machine.execMhWTerm19 s
  | .mhWTerm20 => Sys2Proof.Machine.execMhWTerm20 s
  | .mhWTerm21 => Sys2Proof.Machine.execMhWTerm21 s
  | .mhWTerm22 => Sys2Proof.Machine.execMhWTerm22 s
  | .mhWTerm23 => Sys2Proof.Machine.execMhWTerm23 s
  | .mhWTerm24 => Sys2Proof.Machine.execMhWTerm24 s
  | .mhWTerm25 => Sys2Proof.Machine.execMhWTerm25 s
  | .mhWTerm26 => Sys2Proof.Machine.execMhWTerm26 s
  | .mhWTerm27 => Sys2Proof.Machine.execMhWTerm27 s
  | .mhWTerm28 => Sys2Proof.Machine.execMhWTerm28 s
  | .mhWTerm29 => Sys2Proof.Machine.execMhWTerm29 s
  | .mhWTerm30 => Sys2Proof.Machine.execMhWTerm30 s
  | .mhWTerm31 => Sys2Proof.Machine.execMhWTerm31 s
  | .mhWTerm32 => Sys2Proof.Machine.execMhWTerm32 s
  | .mhWTerm33 => Sys2Proof.Machine.execMhWTerm33 s
  | .mhWTerm34 => Sys2Proof.Machine.execMhWTerm34 s
  | .mhWTerm35 => Sys2Proof.Machine.execMhWTerm35 s
  | .mhWTerm36 => Sys2Proof.Machine.execMhWTerm36 s
  | .mhWTerm37 => Sys2Proof.Machine.execMhWTerm37 s
  | .mhWTerm38 => Sys2Proof.Machine.execMhWTerm38 s
  | .mhWTerm39 => Sys2Proof.Machine.execMhWTerm39 s
  | .mhWTerm40 => Sys2Proof.Machine.execMhWTerm40 s
  | .mhWTerm41 => Sys2Proof.Machine.execMhWTerm41 s
  | .mhWTerm42 => Sys2Proof.Machine.execMhWTerm42 s
  | .mhWTerm43 => Sys2Proof.Machine.execMhWTerm43 s
  | .mhWTerm44 => Sys2Proof.Machine.execMhWTerm44 s
  | .mhWTerm45 => Sys2Proof.Machine.execMhWTerm45 s
  | .mhWTerm46 => Sys2Proof.Machine.execMhWTerm46 s
  | .mhWTerm47 => Sys2Proof.Machine.execMhWTerm47 s
  | .mhWTerm48 => Sys2Proof.Machine.execMhWTerm48 s
  | .mhWTerm49 => Sys2Proof.Machine.execMhWTerm49 s
  | .mhWTerm50 => Sys2Proof.Machine.execMhWTerm50 s
  | .mhWTerm51 => Sys2Proof.Machine.execMhWTerm51 s
  | .mhWTerm52 => Sys2Proof.Machine.execMhWTerm52 s
  | .mhWTerm53 => Sys2Proof.Machine.execMhWTerm53 s
  | .mhWTerm54 => Sys2Proof.Machine.execMhWTerm54 s
  | .mhWTerm55 => Sys2Proof.Machine.execMhWTerm55 s
  | .mhWTerm56 => Sys2Proof.Machine.execMhWTerm56 s
  | .mhWTerm57 => Sys2Proof.Machine.execMhWTerm57 s
  | .mhWTerm58 => Sys2Proof.Machine.execMhWTerm58 s
  | .mhWTerm59 => Sys2Proof.Machine.execMhWTerm59 s
  | .mhWTerm60 => Sys2Proof.Machine.execMhWTerm60 s
  | .mhWTerm61 => Sys2Proof.Machine.execMhWTerm61 s
  | .mhWTerm62 => Sys2Proof.Machine.execMhWTerm62 s
  | .mhWTerm63 => Sys2Proof.Machine.execMhWTerm63 s
  | .mhWMakeup64 => Sys2Proof.Machine.execMhWMakeup64 s
  | .mhWMakeup128 => Sys2Proof.Machine.execMhWMakeup128 s
  | .mhWMakeup192 => Sys2Proof.Machine.execMhWMakeup192 s
  | .mhWMakeup256 => Sys2Proof.Machine.execMhWMakeup256 s
  | .mhWMakeup320 => Sys2Proof.Machine.execMhWMakeup320 s
  | .mhWMakeup384 => Sys2Proof.Machine.execMhWMakeup384 s
  | .mhWMakeup448 => Sys2Proof.Machine.execMhWMakeup448 s
  | .mhWMakeup512 => Sys2Proof.Machine.execMhWMakeup512 s
  | .mhWMakeup576 => Sys2Proof.Machine.execMhWMakeup576 s
  | .mhWMakeup640 => Sys2Proof.Machine.execMhWMakeup640 s
  | .mhWMakeup704 => Sys2Proof.Machine.execMhWMakeup704 s
  | .mhWMakeup768 => Sys2Proof.Machine.execMhWMakeup768 s
  | .mhWMakeup832 => Sys2Proof.Machine.execMhWMakeup832 s
  | .mhWMakeup896 => Sys2Proof.Machine.execMhWMakeup896 s
  | .mhWMakeup960 => Sys2Proof.Machine.execMhWMakeup960 s
  | .mhWMakeup1024 => Sys2Proof.Machine.execMhWMakeup1024 s
  | .mhWMakeup1088 => Sys2Proof.Machine.execMhWMakeup1088 s
  | .mhWMakeup1152 => Sys2Proof.Machine.execMhWMakeup1152 s
  | .mhWMakeup1216 => Sys2Proof.Machine.execMhWMakeup1216 s
  | .mhWMakeup1280 => Sys2Proof.Machine.execMhWMakeup1280 s
  | .mhWMakeup1344 => Sys2Proof.Machine.execMhWMakeup1344 s
  | .mhWMakeup1408 => Sys2Proof.Machine.execMhWMakeup1408 s
  | .mhWMakeup1472 => Sys2Proof.Machine.execMhWMakeup1472 s
  | .mhWMakeup1536 => Sys2Proof.Machine.execMhWMakeup1536 s
  | .mhWMakeup1600 => Sys2Proof.Machine.execMhWMakeup1600 s
  | .mhWMakeup1664 => Sys2Proof.Machine.execMhWMakeup1664 s
  | .mhWMakeup1728 => Sys2Proof.Machine.execMhWMakeup1728 s
  | .mhBTerm0 => Sys2Proof.Machine.execMhBTerm0 s
  | .mhBTerm1 => Sys2Proof.Machine.execMhBTerm1 s
  | .mhBTerm2 => Sys2Proof.Machine.execMhBTerm2 s
  | .mhBTerm3 => Sys2Proof.Machine.execMhBTerm3 s
  | .mhBTerm4 => Sys2Proof.Machine.execMhBTerm4 s
  | .mhBTerm5 => Sys2Proof.Machine.execMhBTerm5 s
  | .mhBTerm6 => Sys2Proof.Machine.execMhBTerm6 s
  | .mhBTerm7 => Sys2Proof.Machine.execMhBTerm7 s
  | .mhBTerm8 => Sys2Proof.Machine.execMhBTerm8 s
  | .mhBTerm9 => Sys2Proof.Machine.execMhBTerm9 s
  | .mhBTerm10 => Sys2Proof.Machine.execMhBTerm10 s
  | .mhBTerm11 => Sys2Proof.Machine.execMhBTerm11 s
  | .mhBTerm12 => Sys2Proof.Machine.execMhBTerm12 s
  | .mhBTerm13 => Sys2Proof.Machine.execMhBTerm13 s
  | .mhBTerm14 => Sys2Proof.Machine.execMhBTerm14 s
  | .mhBTerm15 => Sys2Proof.Machine.execMhBTerm15 s
  | .mhBTerm16 => Sys2Proof.Machine.execMhBTerm16 s
  | .mhBTerm17 => Sys2Proof.Machine.execMhBTerm17 s
  | .mhBTerm18 => Sys2Proof.Machine.execMhBTerm18 s
  | .mhBTerm19 => Sys2Proof.Machine.execMhBTerm19 s
  | .mhBTerm20 => Sys2Proof.Machine.execMhBTerm20 s
  | .mhBTerm21 => Sys2Proof.Machine.execMhBTerm21 s
  | .mhBTerm22 => Sys2Proof.Machine.execMhBTerm22 s
  | .mhBTerm23 => Sys2Proof.Machine.execMhBTerm23 s
  | .mhBTerm24 => Sys2Proof.Machine.execMhBTerm24 s
  | .mhBTerm25 => Sys2Proof.Machine.execMhBTerm25 s
  | .mhBTerm26 => Sys2Proof.Machine.execMhBTerm26 s
  | .mhBTerm27 => Sys2Proof.Machine.execMhBTerm27 s
  | .mhBTerm28 => Sys2Proof.Machine.execMhBTerm28 s
  | .mhBTerm29 => Sys2Proof.Machine.execMhBTerm29 s
  | .mhBTerm30 => Sys2Proof.Machine.execMhBTerm30 s
  | .mhBTerm31 => Sys2Proof.Machine.execMhBTerm31 s
  | .mhBTerm32 => Sys2Proof.Machine.execMhBTerm32 s
  | .mhBTerm33 => Sys2Proof.Machine.execMhBTerm33 s
  | .mhBTerm34 => Sys2Proof.Machine.execMhBTerm34 s
  | .mhBTerm35 => Sys2Proof.Machine.execMhBTerm35 s
  | .mhBTerm36 => Sys2Proof.Machine.execMhBTerm36 s
  | .mhBTerm37 => Sys2Proof.Machine.execMhBTerm37 s
  | .mhBTerm38 => Sys2Proof.Machine.execMhBTerm38 s
  | .mhBTerm39 => Sys2Proof.Machine.execMhBTerm39 s
  | .mhBTerm40 => Sys2Proof.Machine.execMhBTerm40 s
  | .mhBTerm41 => Sys2Proof.Machine.execMhBTerm41 s
  | .mhBTerm42 => Sys2Proof.Machine.execMhBTerm42 s
  | .mhBTerm43 => Sys2Proof.Machine.execMhBTerm43 s
  | .mhBTerm44 => Sys2Proof.Machine.execMhBTerm44 s
  | .mhBTerm45 => Sys2Proof.Machine.execMhBTerm45 s
  | .mhBTerm46 => Sys2Proof.Machine.execMhBTerm46 s
  | .mhBTerm47 => Sys2Proof.Machine.execMhBTerm47 s
  | .mhBTerm48 => Sys2Proof.Machine.execMhBTerm48 s
  | .mhBTerm49 => Sys2Proof.Machine.execMhBTerm49 s
  | .mhBTerm50 => Sys2Proof.Machine.execMhBTerm50 s
  | .mhBTerm51 => Sys2Proof.Machine.execMhBTerm51 s
  | .mhBTerm52 => Sys2Proof.Machine.execMhBTerm52 s
  | .mhBTerm53 => Sys2Proof.Machine.execMhBTerm53 s
  | .mhBTerm54 => Sys2Proof.Machine.execMhBTerm54 s
  | .mhBTerm55 => Sys2Proof.Machine.execMhBTerm55 s
  | .mhBTerm56 => Sys2Proof.Machine.execMhBTerm56 s
  | .mhBTerm57 => Sys2Proof.Machine.execMhBTerm57 s
  | .mhBTerm58 => Sys2Proof.Machine.execMhBTerm58 s
  | .mhBTerm59 => Sys2Proof.Machine.execMhBTerm59 s
  | .mhBTerm60 => Sys2Proof.Machine.execMhBTerm60 s
  | .mhBTerm61 => Sys2Proof.Machine.execMhBTerm61 s
  | .mhBTerm62 => Sys2Proof.Machine.execMhBTerm62 s
  | .mhBTerm63 => Sys2Proof.Machine.execMhBTerm63 s
  | .mhBMakeup64 => Sys2Proof.Machine.execMhBMakeup64 s
  | .mhBMakeup128 => Sys2Proof.Machine.execMhBMakeup128 s
  | .mhBMakeup192 => Sys2Proof.Machine.execMhBMakeup192 s
  | .mhBMakeup256 => Sys2Proof.Machine.execMhBMakeup256 s
  | .mhBMakeup320 => Sys2Proof.Machine.execMhBMakeup320 s
  | .mhBMakeup384 => Sys2Proof.Machine.execMhBMakeup384 s
  | .mhBMakeup448 => Sys2Proof.Machine.execMhBMakeup448 s
  | .mhBMakeup512 => Sys2Proof.Machine.execMhBMakeup512 s
  | .mhBMakeup576 => Sys2Proof.Machine.execMhBMakeup576 s
  | .mhBMakeup640 => Sys2Proof.Machine.execMhBMakeup640 s
  | .mhBMakeup704 => Sys2Proof.Machine.execMhBMakeup704 s
  | .mhBMakeup768 => Sys2Proof.Machine.execMhBMakeup768 s
  | .mhBMakeup832 => Sys2Proof.Machine.execMhBMakeup832 s
  | .mhBMakeup896 => Sys2Proof.Machine.execMhBMakeup896 s
  | .mhBMakeup960 => Sys2Proof.Machine.execMhBMakeup960 s
  | .mhBMakeup1024 => Sys2Proof.Machine.execMhBMakeup1024 s
  | .mhBMakeup1088 => Sys2Proof.Machine.execMhBMakeup1088 s
  | .mhBMakeup1152 => Sys2Proof.Machine.execMhBMakeup1152 s
  | .mhBMakeup1216 => Sys2Proof.Machine.execMhBMakeup1216 s
  | .mhBMakeup1280 => Sys2Proof.Machine.execMhBMakeup1280 s
  | .mhBMakeup1344 => Sys2Proof.Machine.execMhBMakeup1344 s
  | .mhBMakeup1408 => Sys2Proof.Machine.execMhBMakeup1408 s
  | .mhBMakeup1472 => Sys2Proof.Machine.execMhBMakeup1472 s
  | .mhBMakeup1536 => Sys2Proof.Machine.execMhBMakeup1536 s
  | .mhBMakeup1600 => Sys2Proof.Machine.execMhBMakeup1600 s
  | .mhBMakeup1664 => Sys2Proof.Machine.execMhBMakeup1664 s
  | .mhBMakeup1728 => Sys2Proof.Machine.execMhBMakeup1728 s
  | .mhExtMakeup1792 => Sys2Proof.Machine.execMhExtMakeup1792 s
  | .mhExtMakeup1856 => Sys2Proof.Machine.execMhExtMakeup1856 s
  | .mhExtMakeup1920 => Sys2Proof.Machine.execMhExtMakeup1920 s
  | .mhExtMakeup1984 => Sys2Proof.Machine.execMhExtMakeup1984 s
  | .mhExtMakeup2048 => Sys2Proof.Machine.execMhExtMakeup2048 s
  | .mhExtMakeup2112 => Sys2Proof.Machine.execMhExtMakeup2112 s
  | .mhExtMakeup2176 => Sys2Proof.Machine.execMhExtMakeup2176 s
  | .mhExtMakeup2240 => Sys2Proof.Machine.execMhExtMakeup2240 s
  | .mhExtMakeup2304 => Sys2Proof.Machine.execMhExtMakeup2304 s
  | .mhExtMakeup2368 => Sys2Proof.Machine.execMhExtMakeup2368 s
  | .mhExtMakeup2432 => Sys2Proof.Machine.execMhExtMakeup2432 s
  | .mhExtMakeup2496 => Sys2Proof.Machine.execMhExtMakeup2496 s
  | .mhExtMakeup2560 => Sys2Proof.Machine.execMhExtMakeup2560 s

end Sys2Proof.Machine
end

