-- ==== Sys2Proof/Machine/Setup.lean ====
section
/-! DEFINITION. States in which a given instruction is the next one: what `State.withFetchWord` of Machine/Step.lean
sets up (log 1, log 14). -/

namespace Sys2Proof.Machine

open Sys2Proof Host

/-- A write of a word to CMD. -/
def HostAccess.command (w : Word) : HostAccess where
  space := .reg
  write := true
  width := 32
  off := 0
  data := w

/-- `s` with a CMD write as its next host access. -/
def State.withCommand (s : State) (w : Word) : State :=
  { s with focus := .host, hostQueue := HostAccess.command w :: s.hostQueue }

/-- The bytes of a bit string, first bit first into bit 7, and zeros after it: enough for the operands of the longest
symbol, a literal of 128 bytes. -/
def packBytes (bits : List Bool) : List Byte :=
  let padded := bits ++ List.replicate 1040 false
  (List.range 130).map fun i => BitVec.ofNat 8 (natOfBits ((padded.drop (8 * i)).take 8))

/-- A Huffman table with the one code word `0`, for value 0. -/
def oneCodeTable : HuffTable where
  bits := 1 :: List.replicate 15 0
  huffval := [0]
  mincode := List.replicate 16 0
  maxcode := 0 :: List.replicate 15 (-1)
  valptr := List.replicate 16 0

/-- A frame of one 8 by 8 block of one component. -/
def oneBlockFrame : JpegFrame where
  y := 8
  x := 8
  comps := [{ id := 1, h := 1, v := 1, tq := 0 }]

/-- A JPEG state in a phase of that frame. -/
def jpegAt (phase : JpegPhase) : JpegState :=
  { JpegState.init false
      { JpegTables.reset with
        q := ⟨some (List.replicate 64 1), none, none, none⟩
        dc := ⟨some oneCodeTable, none, none, none⟩
        ac := ⟨some oneCodeTable, none, none, none⟩ } with
    phase := phase
    frame := some oneBlockFrame
    scan := [{ td := 0, ta := 0 }]
    preds := [0] }

/-- The phase in which a marker is expected: SOI first, RSTm at a restart point, a scan's EOI after it, and the
others before the frame header. -/
def markerPhase (bits : List Bool) : JpegState :=
  let m := natOfBits (bits.drop 8)
  if m = 0xD8 then JpegState.init false JpegTables.reset
  else if 0xD0 ≤ m ∧ m ≤ 0xD7 then
    { jpegAt .restart with
      tables := { (jpegAt .restart).tables with ri := 1 }
      frame := some { oneBlockFrame with x := 8 * (m - 0xD0 + 2) }
      mcu := m - 0xD0 + 1 }
  else if m = 0xD9 then { jpegAt .tail with mcu := 1, blocks := [List.replicate 64 128] }
  else if m = 0xDA then jpegAt .header
  else { JpegState.init false JpegTables.reset with phase := .header }

/-- CODEC, WIDTH and the codec state in which a unit reads a symbol of a format next. A command word is no symbol;
the entropy-coded symbols have no word of their own in the opcode table. -/
def symbolPlace (f : Fmt) (bits : List Bool) : Nat × Nat × CodecState :=
  let fax (L : Latched) (phase : FaxPhase) (col : Colour) : CodecState :=
    .fax { FaxState.init L with phase := phase, col := col }
  let wide : Latched := { Latched.reset with width := 2560 }
  match f with
  | .lzw old n _ hasPrev =>
    (5, 0, .lzw
      { old := old, nbits := n, prev := if hasPrev then some 65 else none
        dict := if hasPrev then [{ pre := 65, suffix := 66, length := 2, first := 65 }] else [] })
  | .packBits => (32773, 0, .packBits)
  | .mhRun black => (2, 2560, fax wide .run1D (if black then .black else .white))
  | .eol => (3, 2560, fax wide .seekEol .white)
  | .tag => (3, 2560, fax wide .tag .white)
  | .readMode => (4, 2560, fax wide .mode .white)
  | .marker => (7, 8, .jpeg (markerPhase bits))
  | .stuff | .dcSymbol _ => (7, 8, .jpeg (jpegAt .entropy))
  | .acSymbol _ _ => (7, 8, .jpeg { jpegAt .entropy with zz := [0] })
  | .logLuv => (34676, 128, .logLuv LogLuvState.init)
  | .zlib => (8, 0, .deflate)
  | .cmd => (0, 0, .idle)

/-- `s` with an active strip whose next symbol is the given bits in the given format. -/
def State.withSymbol (s : State) (f : Fmt) (bits : List Bool) : State :=
  let (codec, width, place) := symbolPlace f bits
  { s with
    focus := .unit
    stripActive := true
    strip :=
      { cfg := { Latched.reset with codec := BitVec.ofNat 32 codec, width := BitVec.ofNat 32 width, bpr := 1 }
        lin := packBytes bits
        bc := 0
        emitted := []
        term := none
        codec := place } }

end Sys2Proof.Machine
end

