-- ==== Sys2Proof/Machine/Step.lean ====
section
/-! DEFINITION. One step of the machine: the next host access (a write to CMD is a command), or one symbol of the
stream that DECODE is reading (log 1, log 2). -/

namespace Sys2Proof.Machine

open Sys2Proof Host

/-- One step. With the host in focus: the next access of `hostQueue`, where a CMD write runs the command its word
decodes to; with no access left nothing happens (spec/60_exceptions.md R438). With the unit in focus: the next
symbol of the strip, up to the end of its stream. -/
def step (s : State) : Host.Outcome State Fault Refusal :=
  match s.focus with
  | .host =>
    match s.hostQueue with
    | [] => .next s
    | a :: q =>
      if a.isCommand then exec (decodeCmd a.data) { s with hostQueue := q }
      else hostAccess Config.params a { s with hostQueue := q }
  | .unit =>
    if !s.stripActive || s.strip.term.isSome then .next { s with focus := .host }
    else match fetch Config.params s.strip with
      | .quiet st => .next { s with strip := st }
      | .symbol i st => exec i { s with strip := st }

/-- `s` with the opcode-table word `w` of `nbits` bits where `step` fetches its next instruction: a command word as
the first host access, or a symbol as the first of an active strip whose unit reads it (log 14). -/
def State.withFetchWord (s : State) (nbits w : Nat) : State :=
  match tableFmt nbits w with
  | none => s
  | some (.cmd, _) => s.withCommand (BitVec.ofNat 32 w)
  | some (f, bits) => s.withSymbol f bits

end Sys2Proof.Machine
end

