-- ==== Sys2Proof/Machine/HostProgram.lean ====
section
/-! DEFINITION. The host-program syntax of spec/30_encoding.md R94 and R95: each operation as the host accesses it
stands for, and a program run access by access. -/

namespace Sys2Proof.Machine

open Sys2Proof Host

/-- `W REG value` (R94). -/
def HostAccess.writeReg (n : RegName) (v : Word) : HostAccess where
  space := .reg
  write := true
  width := 32
  off := n.offset
  data := v

/-- `R REG`, by offset (R94). -/
def HostAccess.readReg (off : Nat) : HostAccess where
  space := .reg
  write := false
  width := 32
  off := off
  data := 0

/-- One byte of `WIN` (R94). -/
def HostAccess.writeIn (off : Nat) (b : Byte) : HostAccess where
  space := .inBuf
  write := true
  width := 8
  off := off
  data := b.setWidth 32

/-- One byte of `ROUT` (R94). -/
def HostAccess.readOut (off : Nat) : HostAccess where
  space := .outBuf
  write := false
  width := 8
  off := off
  data := 0

/-- `WIN off b0 b1 …` (R94). -/
def hostWin (off : Nat) (b : List Byte) : List HostAccess :=
  b.zipIdx.map fun p => HostAccess.writeIn (off + p.2) p.1

/-- `ROUT off n` (R94). -/
def hostRout (off n : Nat) : List HostAccess :=
  (List.range n).map fun i => HostAccess.readOut (off + i)

/-- A command mnemonic alone (R94); nothing for an instruction that is no command. -/
def hostCommand (i : Instr) : List HostAccess :=
  match encodeCmd i with
  | some w => [HostAccess.command w]
  | none => []

/-- `LOADIN b0 b1 …` (R95). -/
def hostLoadIn (b : List Byte) : List HostAccess :=
  hostWin 0 b ++ [HostAccess.writeReg .inLen (BitVec.ofNat 32 b.length)]

/-- `CFG REG=v, …` (R95). -/
def hostCfg (l : List (RegName × Word)) : List HostAccess :=
  l.map fun p => HostAccess.writeReg p.1 p.2

/-- `DECODE rows=n at=r` (R95). -/
def hostDecode (rows at' : Word) : List HostAccess :=
  [HostAccess.writeReg .rows rows, HostAccess.writeReg .rowStart at'] ++ hostCommand .decode

/-- `STRIP bytes=[…]` (R95). -/
def hostStrip (b : List Byte) : List HostAccess :=
  hostLoadIn b ++ hostCommand .stripBegin

/-- A host about to perform these accesses, one a step, in order (spec/20_memory.md R66). -/
def State.withProgram (s : State) (l : List HostAccess) : State :=
  { s with focus := .host, hostQueue := s.hostQueue ++ l }

end Sys2Proof.Machine
end

