-- ==== Sys2Proof/Safety.lean ====
section
/-! DEFINITION. What a safe run is, in the terms the statements use: the invariants of the block's states, and the
notions of the spec that the statements compare the machine with. -/

namespace Sys2Proof.Machine

open Sys2Proof

/-! ### The invariant of the whole state -/

/-- The reserved bits of every RW register are 0 (spec/10_state.md R22). -/
def Regs.Clean (r : Regs) : Prop :=
  ∀ n : RegName, r.get n &&& ~~~n.mask = 0

/-- The invariant that every step keeps. -/
structure State.Inv (s : State) : Prop where
  /-- Reserved register bits are 0 (R22). -/
  regs : s.regs.Clean
  /-- IN is in canonical form inside its size (R60). -/
  inMem : memWf Config.params.maxInBytes s.inMem = true
  /-- OUT is in canonical form inside its size (R60). -/
  outMem : memWf Config.params.maxOutBytes s.outMem = true
  /-- A result is no longer than OUT (R104, R107). -/
  outLen : s.outLen.toNat ≤ Config.params.maxOutBytes
  /-- While an error is latched no strip is active and no output is valid (R424, R425). -/
  latched : s.latch.isSome = true → s.stripActive = false ∧ s.outValid = false
  /-- A strip is active only inside a slice (R102, R103). -/
  inSlice : s.stripActive = true → s.sliceActive = true
  /-- LZW_OLD is shown only inside a slice (R102, R103). -/
  lzwOld : s.lzwOld = true → s.sliceActive = true

/-- The reset column of the register table (spec/10_state.md R23, spec/70_reset_and_hazards.md R450), by offset:
0 at every RO register, at CMD and at reserved offsets. -/
def resetWord : Nat → Word
  | 0x030 => 1
  | 0x034 => 1
  | 0x03C => 1
  | 0x048 => 0x122
  | 0x060 => 299
  | 0x064 => 1000
  | 0x068 => 587
  | 0x06C => 1000
  | 0x070 => 114
  | 0x074 => 1000
  | 0x084 => 1
  | 0x088 => 255
  | 0x08C => 1
  | 0x090 => 128
  | 0x094 => 1
  | 0x098 => 255
  | 0x09C => 1
  | 0x0A0 => 128
  | 0x0A4 => 1
  | 0x0A8 => 255
  | 0x0AC => 1
  | _ => 0

/-! ### Invariants of the units -/

/-- A code that names a string: a byte, or a defined entry (spec/42_lzw.md R154). -/
def LzwState.names (z : LzwState) (c : Nat) : Prop :=
  c < 256 ∨ (258 ≤ c ∧ c < z.nextFree)

/-- The LZW state of R152: widths 9 to 12, at most 4096 codes, every code below nextFree fits the width, every
entry extends an earlier string by one byte, and prev names a string. -/
structure LzwState.Wf (z : LzwState) : Prop where
  width : 9 ≤ z.nbits ∧ z.nbits ≤ 12
  size : z.nextFree ≤ 4096
  fit : z.nbits = 12 ∨ z.nextFree < (if z.old then 2 ^ z.nbits else 2 ^ z.nbits - 1)
  entries : ∀ i e, z.dict[i]? = some e →
    (e.pre < 256 ∨ (258 ≤ e.pre ∧ e.pre < 258 + i)) ∧ e.length = z.len e.pre + 1 ∧ e.first = z.first e.pre
  prev : ∀ p, z.prev = some p → z.names p

/-- The phases before a row's first code. -/
def FaxPhase.beforeRow : FaxPhase → Bool
  | .rowStart | .seekEol | .tag | .rowTest _ => true
  | .run1D | .mode | .hRun1 | .hRun2 => false

/-- The fax state of R191 and R221 between symbols: the position is inside the row, the pixels up to it are
known (none before a row's first code), and the reference line is a whole row. -/
structure FaxState.Wf (L : Latched) (f : FaxState) : Prop where
  width : 1 ≤ L.w
  fresh : f.phase.beforeRow = true → f.cur = []
  ref : f.ref.length = L.w
  cur : f.cur.length = f.pos
  a0 : -1 ≤ f.a0 ∧ f.a0 < L.w

/-- A fax strip: its state is as above, and it has emitted whole rows (R192). -/
def StripState.FaxWf (st : StripState) : Prop :=
  ∀ f, st.codec = .fax f → f.Wf st.cfg ∧ st.emitted.length = f.rows * ((st.cfg.w + 7) / 8)

/-- What a strip's stream needs to end: an LZW state as above, a raw LogLuv24 row of at least one pixel
(R280), and a JPEG cursor at a byte boundary (R137). -/
def StripState.Wf (st : StripState) : Prop :=
  match st.codec with
  | .lzw z => z.Wf
  | .logLuv _ => 1 ≤ st.cfg.w
  | .jpeg _ => st.bc % 8 = 0
  | _ => True

/-- Every defined table of a set is whole: 64 quantisation values, and Huffman tables of the builder's
(spec/47_jpeg.md R317, R318, R322, R323). -/
structure JpegTables.Wf (T : JpegTables) : Prop where
  q : ∀ i < 4, ∀ l, T.q.get i = some l → l.length = 64
  dc : ∀ i < 4, ∀ h, T.dc.get i = some h → huffTableOk h = true
  ac : ∀ i < 4, ∀ h, T.ac.get i = some h → huffTableOk h = true

/-- The slice's tables are whole, and so are a JPEG strip's own. -/
def State.TablesWf (s : State) : Prop :=
  s.tables.Wf ∧ ∀ j, s.strip.codec = .jpeg j → j.tables.Wf

/-! ### What a decoded stream may end with -/

/-- The kinds an error of a decoded stream can have: CodecError, or the in-stream UnsupportedFeature kinds 34
to 38 (spec/60_exceptions.md R422). -/
def ErrKind.inStream (k : ErrKind) : Bool :=
  decide (k.cls = 1) || (decide (34 ≤ k.code.toNat) && decide (k.code.toNat ≤ 38))

/-- The bits a unit has not yet used: those after the cursor and those in the entropy bit buffer. -/
def StripState.left (st : StripState) : Nat :=
  st.remaining + st.codec.buffered

/-! ### Where a symbol stands -/

/-- The strip's unit is the LZW unit in state `z`, and its stream has not ended. -/
def State.atLzw (s : State) (z : LzwState) : Prop :=
  s.strip.term = none ∧ s.strip.codec = .lzw z

/-- The strip's unit is the PackBits unit, and its stream has not ended. -/
def State.atPackBits (s : State) : Prop :=
  s.strip.term = none ∧ s.strip.codec = .packBits

/-- The strip's unit is a fax unit in state `f`, and its stream has not ended. -/
def State.atFax (s : State) (f : FaxState) : Prop :=
  s.strip.term = none ∧ s.strip.codec = .fax f

/-- The strip's unit is the LogLuv unit in state `v`, and its stream has not ended. -/
def State.atLogLuv (s : State) (v : LogLuvState) : Prop :=
  s.strip.term = none ∧ s.strip.codec = .logLuv v

/-- The strip's unit is the JPEG unit in state `j`, and its stream has not ended. -/
def State.atJpeg (s : State) (j : JpegState) : Prop :=
  s.strip.term = none ∧ s.strip.codec = .jpeg j

/-- `s` with its strip replaced. -/
def State.withStrip (s : State) (st : StripState) : State :=
  { s with strip := st }

/-- `s` with its strip's codec state replaced: what a symbol that only changes it leaves. -/
def State.withCodec (s : State) (c : CodecState) : State :=
  { s with strip := { s.strip with codec := c } }

/-- `s` with its strip's stream ended by an error. -/
def State.streamFails (s : State) (k : ErrKind) : State :=
  { s with strip := { s.strip with term := some (.error k) } }

/-- `s` with ROWS holding `n`. -/
def State.withRows (s : State) (n : Word) : State :=
  { s with regs := s.regs.put .rows n }

/-- `z` with `c` the previous code. -/
def LzwState.withPrev (z : LzwState) (c : Nat) : LzwState :=
  { z with prev := some c }

/-! ### The encoder of R174 -/

/-- The differences of a row's samples with stride `st`, after the samples of `done` (spec/42_lzw.md R174). -/
def difference (bps st : Nat) (done : List Nat) : List Nat → List Nat
  | [] => []
  | x :: xs =>
    (if done.length < st then x else (x + 2 ^ bps - done.getD (done.length - st) 0) % 2 ^ bps) ::
      difference bps st (done ++ [x]) xs

/-- The encoder of R174 on a row's bytes: `predictRow` undoes it. -/
def differenceRow (L : Latched) (row : List Byte) : List Byte :=
  let n := L.bps.toNat / 8
  ((difference L.bps.toNat L.stride [] ((groups n row).map (sampleOf L.mm))).map
    (sampleBytes L.mm n)).flatten

end Sys2Proof.Machine
end

