-- ==== Sys2Proof/Certificates/Slice0/Obligations.lean ====
section
/-! DEFINITION. The statements for the provers. Each docstring names the rules the statement rests on. Where a
rule depends on the sizes that spec/00_scope.md R10 leaves open, the statement holds for every choice of them. -/

open Sys2Proof Sys2Proof.Machine Host

/-! ### Commands: spec/40_commands.md, spec/60_exceptions.md, spec/70_reset_and_hazards.md -/

/-- R101. -/
def Obligations.NopChangesNothing : Prop :=
  ∀ s : State, exec .nop s = .next s

/-- R105, R450, R451: after RESET every register reads its reset value, no strip, no tables, no error; IN and OUT
hold the free values of the next epoch (log 9); the model's host-side fields stay (log 11). Power-on leaves the
same. -/
def Obligations.ResetRestoresEverything : Prop :=
  (∀ s : State, ∃ t, exec .reset s = .next t ∧
    (∀ off, t.readReg off = resetWord off) ∧
    t.strip = StripState.reset ∧ t.tables = JpegTables.reset ∧
    (∀ a, t.readIn a = Config.inFill (s.epoch + 1) a) ∧ (∀ a, t.readOut a = Config.outFill (s.epoch + 1) a) ∧
    t.hostQueue = s.hostQueue ∧ t.readBack = s.readBack ∧ t.focus = s.focus ∧ t.epoch = s.epoch + 1 ∧
    t.draws = s.draws) ∧
  (∀ off, State.reset.readReg off = resetWord off) ∧
    State.reset.strip = StripState.reset ∧ State.reset.tables = JpegTables.reset ∧
    State.reset.inMem = [] ∧ State.reset.outMem = []

/-- R103, whole: what SLICE_BEGIN sets, and that it keeps the configuration registers, IN and OUT. -/
def Obligations.SliceBeginStartsASlice : Prop :=
  ∀ s : State, exec .sliceBegin s = .next
    { s with
      latch := none, stripActive := false, pos := 0, lzwOld := false, outValid := false, outLen := 0
      strip := StripState.reset, tables := JpegTables.reset, tablesLoaded := false, sliceActive := true } ∧
    ∀ t, exec .sliceBegin s = .next t → t.status = 0x00000002 ∧ t.errInfo = 0 ∧ t.errRow = 0 ∧ t.errStrip = 0

/-- R108, whole, where R100 admits the command. -/
def Obligations.StripEndEndsTheStrip : Prop :=
  ∀ s : State, s.err = false → exec .stripEnd s = .next
    { s with stripActive := false, pos := 0, lzwOld := false, strip := StripState.reset }

/-- R82, R109, R421, R424: a word with a bit of [31:4] set, whatever its opcode, is CommandError(RESERVED_BITS), any
other with opcode 8 to 15 CommandError(ILLEGAL_CMD), where ERR = 0: ERR_ROW = 0, ERR_STRIP = STRIP_INDEX, STRIP_ACTIVE
and OUT_VALID cleared, nothing else changed. While an error is latched such a word does nothing. -/
def Obligations.ReservedWordsRaise : Prop :=
  (∀ w : Word, (16 ≤ w.toNat → ∃ r o, decodeCmd w = .reservedBits r o) ∧
    (8 ≤ w.toNat → w.toNat < 16 → ∃ low, decodeCmd w = .reservedOpc low)) ∧
  ∀ s : State,
    let fails (k : ErrKind) : State :=
      { s with latch := some ⟨k, 0, s.regs.read .stripIndex⟩, stripActive := false, outValid := false }
    (∀ low, exec (.reservedOpc low) s = .next (if s.err then s else fails .illegalCmd)) ∧
    (∀ r o, exec (.reservedBits r o) s = .next (if s.err then s else fails .reservedBits)) ∧
    (fails .illegalCmd).errInfo = 0x00000204 ∧ (fails .reservedBits).errInfo = 0x00000104 ∧
    (fails .illegalCmd).err = true ∧ (fails .reservedBits).err = true

/-- R425, R427: with ERR = 1 every command but NOP, RESET and SLICE_BEGIN does nothing. -/
def Obligations.LatchedErrorRefusesCommands : Prop :=
  ∀ (s : State) (i : Instr) (w : Word), s.err = true → encodeCmd i = some w →
    i ≠ .reset → i ≠ .sliceBegin → exec i s = .next s

/-- R102, R39, R40, R46, R423: NO_SLICE comes first and keeps POS and LZW_OLD; then the general checks in the order
CODEC, IN_LEN, BPR, SPP, BPS, PREDICTOR and the unit's own, each with the error it raises, the strip ended and POS and
LZW_OLD cleared. When all hold, the configuration is latched, the input copied and the unit begun at its initial
state, and everything else stays. R170, R190, R280, R310, R366, R380: the unit's own checks are, in order, those of
the fax units, of the predictor, of LogLuv and of JPEG. -/
def Obligations.StripBeginChecksThenLatches : Prop :=
  (∀ s : State, s.err = false →
    exec .stripBegin s = .next (s.beginStrip Config.params) ∧
    ∀ P : Params,
      let r := s.regs
      let fails (k : ErrKind) : State :=
        { s with
          latch := some ⟨k, 0, r.read .stripIndex⟩, stripActive := false, outValid := false, pos := 0
          lzwOld := false }
      (s.sliceActive = false → s.beginStrip P =
        { s with
          latch := some ⟨.noSlice, 0, r.read .stripIndex⟩, stripActive := false, outValid := false }) ∧
      (s.sliceActive = true → s.beginStrip P =
        if (r.read .codec).toNat ∉ [2, 3, 4, 5, 7, 8, 32946, 32773, 34676, 34677] then fails .codec
        else if P.maxInBytes < (r.read .inLen).toNat then fails .inLen
        else if r.read .bpr = 0 then fails .bpr
        else if r.read .spp = 0 then fails .spp
        else if r.read .bps = 0 then fails .bps
        else if r.read .predictor ≠ 1 ∧
            ¬ (r.read .predictor = 2 ∧ (r.read .codec).toNat ∈ [5, 8, 32946, 32773]) then fails .predictor
        else match firstFailure (unitChecks P r.latchAll) with
          | some k => fails k
          | none =>
            { s with
              stripActive := true
              pos := 0
              lzwOld := decide ((r.read .codec).toNat = 5) && oldVariant (s.inBytes (r.read .inLen).toNat)
              strip := StripState.init r.latchAll (s.inBytes (r.read .inLen).toNat) s.tables })) ∧
  ∀ (P : Params) (L : Latched),
    let codec := L.codec.toNat
    let width := L.width.toNat
    let bpr := L.bpr.toNat
    let own := firstFailure (unitChecks P L)
    (codec ∈ [2, 3, 4] → own =
      if L.bps.toNat ≠ 1 then some .bps
      else if L.spp.toNat ≠ 1 then some .spp
      else if width < 1 ∨ P.maxWidth < width then some .width
      else if bpr ≠ (width + 7) / 8 then some .bpr
      else if (codec = 3 ∧ L.t4opt.getLsbD 1 = true) ∨ (codec = 4 ∧ L.t6opt.getLsbD 1 = true) then
        some .faxUncompressed
      else none) ∧
    (codec ∈ [5, 8, 32946, 32773] → own =
      if L.predictor.toNat ≠ 2 then none
      else if L.bps.toNat ∉ [8, 16, 32] then some .predictor
      else if bpr % (L.bps.toNat / 8) ≠ 0 then some .bpr
      else none) ∧
    (codec ∈ [34676, 34677] → own =
      if width < 1 ∨ P.maxWidth < width then some .width
      else if bpr ≠ (if codec = 34676 ∧ L.photometric.toNat = 32844 then width else 3 * width) then some .bpr
      else none) ∧
    (codec = 7 →
      let nc := if L.planar then 1 else L.spp.toNat
      let c := L.coef
      own =
        if width < 1 ∨ P.maxWidth < width then some .width
        else if L.bps.toNat ≠ 8 then some .bps
        else if L.spp.toNat < 1 ∨ 4 < L.spp.toNat then some .spp
        else if bpr ≠ width * nc then some .bpr
        else if (L.ycc2rgb = true ∧ L.photometric.toNat = 6 ∧ nc = 3) ∧
            (0 ∈ [c.lumaRDen, c.lumaGDen, c.lumaBDen, c.refbw0Den, c.refbw1Den, c.refbw2Den, c.refbw3Den,
              c.refbw4Den, c.refbw5Den] ∨ c.lumaGNum = 0 ∨ c.rb 1 = c.rb 0 ∨ c.rb 3 = c.rb 2 ∨ c.rb 5 = c.rb 4) then
          some .yccCoef
        else none)

/-- R104, R64, R463: a DECODE of rows the stream holds writes exactly those bytes to OUT, advances POS, sets
OUT_LEN and OUT_VALID, and leaves the rest of OUT, IN and every other register; the unit has gone at least as
far as POS (R42). -/
def Obligations.DecodeDelivers : Prop :=
  ∀ s : State, s.err = false →
    exec .decode s = .next (s.decodeRows Config.params) ∧
    ∀ P : Params, s.stripActive = true → s.occ ≤ P.maxOutBytes → s.pos.toNat + s.occ ≤ 2 ^ 32 - 1 →
      s.pos.toNat + s.occ ≤ s.streamBytes.length →
      let t := s.decodeRows P
      (∀ i < s.occ, s.streamBytes[s.pos.toNat + i]? = some (t.readOut i)) ∧
      (∀ i, s.occ ≤ i → t.readOut i = s.readOut i) ∧ (∀ a, t.readIn a = s.readIn a) ∧
      t.pos.toNat = s.pos.toNat + s.occ ∧ t.outLen.toNat = s.occ ∧ t.outValid = true ∧
      t.strip.cfg = s.strip.cfg ∧ t.strip.lin = s.strip.lin ∧
      (s.strip.Wf → t.pos.toNat ≤ t.strip.output.length) ∧
      t = { s with pos := t.pos, outLen := t.outLen, outValid := true, outMem := t.outMem, strip := t.strip }

/-- R104, R111, R423, R424, R428: without a strip DECODE is NO_STRIP, and a request too large is ROWS_RANGE, both
with ERR_ROW = ROW_START and no other effect than the latch's. A DECODE of more bytes than the stream holds raises
the stream's own error, or TRUNCATED where it ends normally, with the row of R111; only OUT[0..occ) may change beside
the latch. ERR_STRIP is L.STRIP_INDEX. -/
def Obligations.DecodeFails : Prop :=
  ∀ s : State, s.err = false →
    exec .decode s = .next (s.decodeRows Config.params) ∧
    ∀ P : Params,
      let fails (k : ErrKind) (row : Word) : State :=
        { s with latch := some ⟨k, row, s.strip.cfg.stripIndex⟩, stripActive := false, outValid := false }
      (s.stripActive = false → s.decodeRows P = fails .noStrip (s.regs.read .rowStart)) ∧
      (s.stripActive = true → P.maxOutBytes < s.occ ∨ 2 ^ 32 - 1 < s.pos.toNat + s.occ →
        s.decodeRows P = fails .rowsRange (s.regs.read .rowStart)) ∧
      (s.stripActive = true → s.occ ≤ P.maxOutBytes → s.pos.toNat + s.occ ≤ 2 ^ 32 - 1 →
        s.streamBytes.length < s.pos.toNat + s.occ →
        let kind := match s.streamEnd with
          | .done => .truncated
          | .error k => k
        let row := BitVec.ofNat 32 ((s.regs.read .rowStart).toNat +
          (s.streamBytes.length - s.pos.toNat) / s.strip.cfg.bpr.toNat)
        let t := s.decodeRows P
        (∀ i, s.occ ≤ i → t.readOut i = s.readOut i) ∧
          t = { fails kind row with outMem := t.outMem, draws := s.draws + 1 })

/-- R42, R110: a successful DECODE leaves the strip's decoded stream as it was. -/
def Obligations.DecodeKeepsTheStream : Prop :=
  ∀ s t : State, s.strip.Wf → exec .decode s = .next t → t.err = false →
    t.streamBytes = s.streamBytes ∧ t.streamEnd = s.streamEnd ∧ t.strip.Wf

/-- R110: two successful DECODEs deliver what one DECODE of all their rows delivers, however large OUT is.
`decodeRows` is what DECODE does (R104, the statement DecodeDelivers). -/
def Obligations.SplitInvariance : Prop :=
  ∀ (P : Params) (s : State) (n m : Word), s.strip.Wf → s.err = false →
    let t := (s.withRows n).decodeRows P
    let u := (t.withRows m).decodeRows P
    let v := (s.withRows (n + m)).decodeRows P
    let bpr := s.strip.cfg.bpr.toNat
    t.err = false → u.err = false → n.toNat + m.toNat < 2 ^ 32 → (n.toNat + m.toNat) * bpr ≤ P.maxOutBytes →
    v.err = false ∧ v.pos = u.pos ∧
      ∀ i < (n.toNat + m.toNat) * bpr,
        v.readOut i = if i < n.toNat * bpr then t.readOut i else u.readOut (i - n.toNat * bpr)

/-- R106, R340, R423: LOAD_JPEG_TABLES replaces T by what the tables stream parses to; its errors leave T, and
come in the order NO_SLICE, STRIP_ACTIVE, IN_LEN, then the stream's. -/
def Obligations.LoadTablesLoads : Prop :=
  ∀ s : State, s.err = false →
    exec .loadJpegTables s = .next (s.loadTables Config.params) ∧
    ∀ P : Params,
      let n := (s.regs.read .inLen).toNat
      let fails (k : ErrKind) : State :=
        { s with latch := some ⟨k, 0, s.regs.read .stripIndex⟩, stripActive := false, outValid := false }
      s.loadTables P =
        if s.sliceActive = false then fails .noSlice
        else if s.stripActive = true then fails .stripActive
        else if P.maxInBytes < n then fails .inLen
        else match s.parseTables (s.inBytes n) with
          | .ok T => { s with tables := T, tablesLoaded := true }
          | .error k => fails k

/-- R107, R387: an UPSAMPLE_YCBCR whose checks hold and whose input is whole writes three bytes a pixel, row by
row, and leaves the rest of OUT, IN and every other register. -/
def Obligations.UpsampleDelivers : Prop :=
  ∀ s : State, s.err = false →
    exec .upsampleYcbcr s = .next (s.upsample Config.params) ∧
    ∀ P : Params, s.stripActive = false → firstFailure (upsampleChecks P s.regs) = none →
      s.regs.upsampling.need ≤ (s.regs.read .inLen).toNat →
      let u := s.regs.upsampling
      let b := s.inBytes (s.regs.read .inLen).toNat
      let t := s.upsample P
      (∀ x < u.w, ∀ y < u.h, ∀ c < 3,
        (u.pixel s.regs.coef b x y)[c]? = some (t.readOut (3 * (y * u.w + x) + c))) ∧
      (∀ i, 3 * u.w * u.h ≤ i → t.readOut i = s.readOut i) ∧
      t.outLen.toNat = 3 * u.w * u.h % 2 ^ 32 ∧
      t = { s with outLen := t.outLen, outValid := true, outMem := t.outMem }

/-- R107, R386, R388, R428: a strip, a failing check and a short input each raise their error; only the last
may change OUT[0..3·W·H). -/
def Obligations.UpsampleFails : Prop :=
  ∀ s : State, s.err = false →
    exec .upsampleYcbcr s = .next (s.upsample Config.params) ∧
    ∀ P : Params,
      let u := s.regs.upsampling
      let fails (k : ErrKind) : State :=
        { s with latch := some ⟨k, 0, s.regs.read .stripIndex⟩, stripActive := false, outValid := false }
      (s.stripActive = true → s.upsample P = fails .stripActive) ∧
      (s.stripActive = false → ∀ k, firstFailure (upsampleChecks P s.regs) = some k →
        s.upsample P = fails k) ∧
      (s.stripActive = false → firstFailure (upsampleChecks P s.regs) = none →
        (s.regs.read .inLen).toNat < u.need →
        let t := s.upsample P
        (∀ i, 3 * u.w * u.h ≤ i → t.readOut i = s.readOut i) ∧
          t = { fails .truncated with outMem := t.outMem, draws := s.draws + 1 })

/-- R422: which errors each command can raise. -/
def Obligations.CommandsRaiseOnlyTheirErrors : Prop :=
  ∀ (s t : State) (i : Instr) (e : ErrorLatch), s.err = false → exec i s = .next t → t.latch = some e →
    (i ≠ .nop ∧ i ≠ .reset ∧ i ≠ .sliceBegin ∧ i ≠ .stripEnd) ∧
    (i = .stripBegin → e.kind = .noSlice ∨ e.kind.cls = 3 ∨ e.kind.cls = 2) ∧
    (i = .decode → s.strip.term = none →
      e.kind = .noStrip ∨ e.kind = .rowsRange ∨ e.kind.inStream = true) ∧
    (i = .loadJpegTables →
      e.kind = .noSlice ∨ e.kind = .stripActive ∨ e.kind = .inLen ∨ e.kind.inStream = true) ∧
    (i = .upsampleYcbcr → e.kind = .stripActive ∨ e.kind.cls = 3 ∨ e.kind = .truncated)

/-! ### Host accesses: spec/10_state.md R22, spec/20_memory.md -/

/-- R22, R23, R65: a host write to an RW register stores the value's fields; that register alone changes. -/
def Obligations.RegisterWriteStores : Prop :=
  ∀ (s : State) (n : RegName) (v : Word) (q : List HostAccess), s.focus = .host →
    s.hostQueue = HostAccess.writeReg n v :: q →
    ∃ t, step s = .next t ∧ t.readReg n.offset = v &&& n.mask ∧
      (∀ m, m ≠ n → t.regs.get m = s.regs.get m) ∧ t = { s with hostQueue := q, regs := t.regs }

/-- R62 to R65: an admitted read returns the word or byte and changes nothing else. -/
def Obligations.ReadsHaveNoEffect : Prop :=
  ∀ (s : State) (a : HostAccess) (q : List HostAccess), s.focus = .host → s.hostQueue = a :: q →
    a.write = false → a.admitted = true → a.inSpace Config.params = true →
    step s = .next
      { s with
        hostQueue := q
        readBack := some
          (match a.space with
          | .reg => s.readReg a.off
          | .inBuf => (s.readIn a.off).setWidth 32
          | .outBuf => (s.readOut a.off).setWidth 32) }

/-- R63, R462: a byte written to IN is stored, and ignored while a strip is active. -/
def Obligations.InputLock : Prop :=
  ∀ (s : State) (a : Nat) (b : Byte) (q : List HostAccess), s.focus = .host →
    s.hostQueue = HostAccess.writeIn a b :: q → a < Config.params.maxInBytes →
    ∃ t, step s = .next t ∧
      t.readIn a = (if s.stripActive then s.readIn a else b) ∧ (∀ x, x ≠ a → t.readIn x = s.readIn x) ∧
      t = { s with hostQueue := q, inMem := t.inMem } ∧ (s.stripActive = true → t.inMem = s.inMem)

/-- R22, R62 to R64, R431: writes to read-only and reserved registers and to OUT are ignored; an access of a width
or alignment its space does not take is refused, and one outside its space faults. -/
def Obligations.OtherAccesses : Prop :=
  ∀ (s : State) (a : HostAccess) (q : List HostAccess), s.focus = .host → s.hostQueue = a :: q →
    (a.write = true → a.admitted = true → a.inSpace Config.params = true →
      (a.space = .outBuf ∨ (a.space = .reg ∧ a.off ≠ 0 ∧ RegName.ofOffset? a.off = none)) →
      step s = .next { s with hostQueue := q }) ∧
    ((a.space = .reg ∧ (a.width ≠ 32 ∨ a.off % 4 ≠ 0)) ∨ (a.space ≠ .reg ∧ a.width ≠ 8) →
      step s = .refused .accessNotAdmitted) ∧
    (a.admitted = true →
      (a.space = .reg ∧ 0x1000 ≤ a.off) ∨ (a.space = .inBuf ∧ Config.params.maxInBytes ≤ a.off) ∨
        (a.space = .outBuf ∧ Config.params.maxOutBytes ≤ a.off) →
      step s = .fault .noSuchAddress)

/-! ### Steps and encodings: spec/30_encoding.md -/

/-- R24, R66, R80: a step whose host access writes CMD runs the command its word decodes to; a word at hand
through `withFetchWord` is that access. -/
def Obligations.StepRunsTheCommand : Prop :=
  (∀ (s : State) (w : Word) (q : List HostAccess), s.focus = .host → s.hostQueue = HostAccess.command w :: q →
    step s = exec (decodeCmd w) { s with hostQueue := q }) ∧
  ∀ (s : State) (w : Word),
    step (s.withFetchWord 32 w.toNat) = exec (decodeCmd w) { s with focus := .host }

/-- R83, R84, R85, R91: a step of the unit runs the symbol that the bits at the cursor decode to, its bits consumed
(log 22): any fetched symbol; an LZW code; a PackBits control byte; a run code inside a row. -/
def Obligations.StepRunsTheSymbol : Prop :=
  ∀ s : State, s.focus = .unit → s.stripActive = true → s.strip.term = none →
    (∀ i st, fetch Config.params s.strip = .symbol i st → step s = exec i { s with strip := st }) ∧
    (∀ z i n, s.strip.codec = .lzw z → z.nbits ≤ s.strip.remaining →
      decode (.lzw z.old z.nbits z.nextFree z.prev.isSome) (peekBits z.old s.strip.lin z.nbits s.strip.bc) =
        .found i n →
      step s = exec i { s with strip := s.strip.skip n }) ∧
    (∀ c rest, s.strip.codec = .packBits → s.strip.bc % 8 = 0 → s.strip.bytes = c :: rest →
      step s = exec (packBitsSymbol c) { s with strip := s.strip.skip 8 }) ∧
    (∀ f i n, s.strip.codec = .fax f → f.phase = .run1D →
      decode (.mhRun f.col.pixel) (peekBits s.strip.cfg.fillLsb s.strip.lin 13 s.strip.bc) = .found i n →
      step s = exec i { s with strip := s.strip.skip n })

/-- Log 2, log 21, R13, R422: a step of the unit is `unitStep`, of which DECODE's stream is made. It always takes a
next state, in which nothing but the strip is changed, L, Lin and every byte emitted are kept, and a stream ends only
normally or with an error of the kinds a stream can have. -/
def Obligations.UnitSteps : Prop :=
  ∀ s : State, s.strip.term = none →
    (s.focus = .unit → s.stripActive = true → step s = unitStep s) ∧
    ∃ t, unitStep s = .next t ∧ t = { s with strip := t.strip } ∧
      t.strip.cfg = s.strip.cfg ∧ t.strip.lin = s.strip.lin ∧ s.strip.emitted <+: t.strip.emitted ∧
      ∀ k, t.strip.term = some (.error k) → k.inStream = true

/-- R81 to R91: decoding an encoded instruction that fits its format gives it back, whatever follows. -/
def Obligations.DecodeReadsEncode : Prop :=
  ∀ (f : Fmt) (i : Instr) (rest : List Bool), fits f i = true →
    ∃ bits, encode f i = some bits ∧ decode f (bits ++ rest) = .found i bits.length

/-- R80 to R82, R109: every 32-bit word is a command word, and encoding its command gives the word back. -/
def Obligations.CommandWordsAreTotal : Prop :=
  ∀ w : Word, encodeCmd (decodeCmd w) = some w ∧ (decodeCmd w).WellFormed = true

/-- Words written out from the tables of spec/30_encoding.md, 43_fax_mh.md, 44_fax_read.md and 47_jpeg.md, one of
each family, decode to what they stand for. -/
def Obligations.WrittenWordsDecode : Prop :=
  decode .cmd (cw 32 0x00000004) = .found .decode 32 ∧
  decode .cmd (cw 32 0x00000014) = .found (.reservedBits 1 4) 32 ∧
  decode (.lzw false 9 258 false) (cw 9 0b100000000) = .found .lzwClear 9 ∧
  decode .packBits (cw 8 0b10000001) = .found (.pbRepeat 1) 8 ∧
  decode (.mhRun false) (cw 4 0b0111) = .found .mhWTerm2 4 ∧
  decode (.mhRun true) (cw 2 0b10) = .found .mhBTerm3 2 ∧
  decode .readMode (cw 6 0b000011) = .found .readVr2 6 ∧
  decode .eol (cw 12 0b000000000001) = .found .faxEol 12 ∧
  decode .marker (cw 16 0xFFDA) = .found .jpegSos 16 ∧
  decode .logLuv (cw 8 0b10000000) = .found (.logluvRun 0) 8

/-! ### Streams: spec/10_state.md R42, spec/60_exceptions.md R430 -/

/-- R152, R430: a strip that STRIP_BEGIN's checks let pass begins with a sound unit (an LZW unit in the state of R152
among them), every step of the unit keeps it sound, and ends the stream or uses at least one bit that is left. -/
def Obligations.UnitStepsEndOrConsume : Prop :=
  (∀ (P : Params) (L : Latched) (lin : List Byte) (T : JpegTables), firstFailure (stripChecks P L) = none →
    (StripState.init L lin T).Wf) ∧
  ∀ s t : State, s.strip.Wf → s.strip.term = none → unitStep s = .next t →
    t.strip.Wf ∧ (t.strip.term ≠ none ∨ t.strip.left < s.strip.left)

/-- R42, R452, R461: what a strip decodes to depends on the strip alone, not on registers, IN, OUT, tables or
the latch. -/
def Obligations.StreamDependsOnTheStripOnly : Prop :=
  ∀ s t : State, s.strip = t.strip → s.streamBytes = t.streamBytes ∧ s.streamEnd = t.streamEnd

/-! ### LZW: spec/42_lzw.md -/

/-- R156, R158, R161, R162: a literal emits its byte and adds an entry after a previous code; Clear empties the
dictionary; EOI and a bad code end the stream. -/
def Obligations.LzwLiteralClearEoiBad : Prop :=
  ∀ (s : State) (z : LzwState), s.atLzw z →
    (∀ c : BitVec 8, exec (.lzwLiteral c) s = .next
      { s with strip :=
        { s.strip with
          emitted := s.strip.emitted ++ [c]
          codec := .lzw ((z.prev.elim z fun p => z.add p c).withPrev c.toNat) } }) ∧
    exec .lzwClear s = .next
      (s.withCodec (.lzw { old := z.old, nbits := 9, prev := none, dict := [] })) ∧
    exec .lzwEoi s = .next { s with strip := { s.strip with term := some .done } } ∧
    (∀ c, exec (.lzwBad c) s = .next (s.streamFails .lzwBadCode))

/-- R159, R160: a defined code emits its string, and the code equal to nextFree the previous string and its first
byte; both add an entry; with no previous code both are LZW_BAD_CODE. -/
def Obligations.LzwDictAndKwkwk : Prop :=
  ∀ (s : State) (z : LzwState) (c : BitVec 12), s.atLzw z →
    (z.prev = none →
      exec (.lzwDict c) s = .next (s.streamFails .lzwBadCode) ∧
      exec (.lzwKwkwk c) s = .next (s.streamFails .lzwBadCode)) ∧
    ∀ p, z.prev = some p →
      (258 ≤ c.toNat → c.toNat < z.nextFree → exec (.lzwDict c) s = .next
        { s with strip :=
          { s.strip with
            emitted := s.strip.emitted ++ z.str c.toNat
            codec := .lzw ((z.add p (z.first c.toNat)).withPrev c.toNat) } }) ∧
      (c.toNat = z.nextFree → exec (.lzwKwkwk c) s = .next
        { s with strip :=
          { s.strip with
            emitted := s.strip.emitted ++ (z.str p ++ [z.first p])
            codec := .lzw ((z.add p (z.first p)).withPrev c.toNat) } })

/-- R154, R157: in a state of R152 the string of a code that names one has the length and first byte its entry
says, and a new entry's string is that of prev and the byte. -/
def Obligations.LzwStrings : Prop :=
  ∀ (z : LzwState) (c : Nat), z.Wf → z.names c →
    (z.str c).length = z.len c ∧ (z.str c).head? = some (z.first c) ∧ 1 ≤ z.len c ∧
      ∀ f : Byte, z.nextFree < 4096 →
        (z.add c f).nextFree = z.nextFree + 1 ∧ (z.add c f).str z.nextFree = z.str c ++ [f]

/-! ### PackBits and deflate: spec/45_packbits.md, spec/49_deflate.md -/

/-- R262, R263, R265, whole: which run a control byte is, the byte it takes, and what the literal run, the no-op and the
repeat run do with the bytes after it, their truncated forms among them. -/
def Obligations.PackBitsRuns : Prop :=
  (∀ c : Byte, packBitsSymbol c =
    if c.toNat < 128 then .pbLiteral (BitVec.ofNat 7 c.toNat)
    else if c.toNat = 128 then .pbNop else .pbRepeat (BitVec.ofNat 7 (c.toNat - 128))) ∧
  ∀ s : State, s.atPackBits →
    (∀ c rest, s.strip.bc % 8 = 0 → s.strip.bytes = c :: rest →
      unitStep s = exec (packBitsSymbol c) { s with strip := { s.strip with bc := s.strip.bc + 8 } }) ∧
    exec .pbNop s = .next s ∧
    (∀ n : BitVec 7, exec (.pbLiteral n) s = .next
      (if s.strip.bytes.length < n.toNat + 1 then s.streamFails .truncated
      else { s with strip :=
        { s.strip with
          emitted := s.strip.emitted ++ s.strip.bytes.take (n.toNat + 1)
          bc := s.strip.bc + 8 * (n.toNat + 1) } })) ∧
    (∀ n : BitVec 7, n ≠ 0 →
      (s.strip.bytes = [] → exec (.pbRepeat n) s = .next (s.streamFails .truncated)) ∧
      ∀ v rest, s.strip.bytes = v :: rest → exec (.pbRepeat n) s = .next
        { s with strip :=
          { s.strip with
            emitted := s.strip.emitted ++ List.replicate (129 - n.toNat) v
            bc := s.strip.bc + 8 } })

/-- R410, R412: the whole strip inflates at once, and every failure of the primitive is CodecError(INFLATE), an empty
input among them. Whatever the primitive does with each byte, a zlib stream ends after some byte: those after it are
ignored, and a stream cut short before it is a failure, with the first part of its output (log 6). -/
def Obligations.ZlibStreamInflates : Prop :=
  (∀ s : State, s.strip.term = none → s.strip.codec = .deflate →
    exec .zlibStream s = .next
      { s with strip :=
        { s.strip with
          emitted := s.strip.emitted ++ (inflate Config.params s.strip.lin).1
          term := some (if (inflate Config.params s.strip.lin).2 then .done else .error .inflate) } } ∧
    (s.strip.lin = [] → exec .zlibStream s = .next (s.streamFails .inflate))) ∧
  ∀ (P : Params) (z : List Byte), (inflate P z).2 = true → ∃ n, 1 ≤ n ∧ n ≤ z.length ∧
    (∀ junk, inflate P (z.take n ++ junk) = inflate P z) ∧
    ∀ k < n, (inflate P (z.take k)).2 = false ∧ (inflate P (z.take k)).1 <+: (inflate P z).1

/-! ### Predictor: spec/42_lzw.md R170 to R174 -/

/-- R174: reconstructing a differenced row gives the row, for every stride and byte order. -/
def Obligations.PredictorUndoesDifferencing : Prop :=
  ∀ (L : Latched) (row : List Byte), L.bps.toNat ∈ [8, 16, 32] → 1 ≤ L.stride →
    row.length % (L.bps.toNat / 8) = 0 → predictRow L (differenceRow L row) = row

/-! ### Fax: spec/43_fax_mh.md, spec/44_fax_read.md -/

/-- R194 to R196: a make-up code (mhWMakeup64 to mhWMakeup1728, mhBMakeup64 to mhBMakeup1728, mhExtMakeup1792 to
mhExtMakeup2560: the rows of the three tables) adds its value to the run being read, of its own colour, and an
extended one to that of either colour; nothing else changes but that a row has begun. -/
def Obligations.MakeUpCodesAdd : Prop :=
  ∀ (s : State) (f : FaxState), s.atFax f → f.inRun s.strip.cfg = true →
    ∀ (row : Nat × List Bool × Instr),
      (row ∈ mhWhiteMakeup ∧ f.runColour = .white) ∨ (row ∈ mhBlackMakeup ∧ f.runColour = .black) ∨
        row ∈ mhExtMakeup →
      ∃ p, (p = f.phase ∨ (f.phase.beforeRow = true ∧ p = .run1D)) ∧
        exec row.2.2 s = .next
          (s.withCodec (.fax { f with run := f.run + row.1, phase := p }))

/-- R193, R195, R196, R198, R199: in a one-dimensional row a terminating code (mhWTerm0 to mhWTerm63, mhBTerm0 to
mhBTerm63: the rows of the two tables) ends the run: its pixels take the colour and the colour changes; a run past the
row's end is FAX_BAD_RUN. -/
def Obligations.OneDimensionalRuns : Prop :=
  ∀ (s : State) (f : FaxState) (row : Nat × List Bool × Instr), s.atFax f →
    (row ∈ mhWhiteTerm ∧ f.col = .white) ∨ (row ∈ mhBlackTerm ∧ f.col = .black) →
    f.phase = .run1D ∨ f.phase = .rowTest false ∨ (f.phase = .rowStart ∧ s.strip.cfg.unit? ≠ some .g4) →
    let n := f.run + row.1
    exec row.2.2 s = .next
      (if s.strip.cfg.w < f.pos + n then s.streamFails .faxBadRun
      else (s.withStrip (faxContinue
        { f with
          cur := f.cur ++ List.replicate n f.col.pixel
          a0 := (f.pos + n : Nat)
          run := 0
          col := f.col.opposite
          phase := .run1D } s.strip)))

/-- R226: the two runs of mode H, the first of the current colour and the second of the other; the check is made
once both are read. -/
def Obligations.HorizontalRuns : Prop :=
  ∀ (s : State) (f : FaxState) (row : Nat × List Bool × Instr), s.atFax f →
    (row ∈ mhWhiteTerm ∧ f.runColour = .white) ∨ (row ∈ mhBlackTerm ∧ f.runColour = .black) →
    let n := f.run + row.1
    (f.phase = .hRun1 → exec row.2.2 s = .next
      (s.withCodec (.fax { f with run := 0, run1 := n, phase := .hRun2 }))) ∧
    (f.phase = .hRun2 → exec row.2.2 s = .next
      (if s.strip.cfg.w < f.pos + f.run1 + n then s.streamFails .faxBadRun
      else (s.withStrip (faxContinue
        { f with
          cur := f.cur ++ List.replicate f.run1 f.col.pixel ++ List.replicate n f.col.opposite.pixel
          a0 := (f.pos + f.run1 + n : Nat)
          run := 0
          run1 := 0
          phase := .mode } s.strip))))

/-- R192, R199, R232, R240: pixel x of a row is bit 7 - x mod 8 of byte x div 8, black 1, with padding bits 0. A row
goes on while a0 is left of W, and at W it is emitted and becomes the reference line of the next. -/
def Obligations.FaxRowEnds : Prop :=
  (∀ (w : Nat) (row : List Bool), row.length = w →
    (rowBytes w row).length = (w + 7) / 8 ∧
    ∀ x < 8 * ((w + 7) / 8), ∃ b, (rowBytes w row)[x / 8]? = some b ∧ b.getLsbD (7 - x % 8) = row.getD x false) ∧
  ∀ (f : FaxState) (st : StripState),
    (f.a0 < st.cfg.w → faxContinue f st = { st with codec := .fax f }) ∧
    ((st.cfg.w : Int) ≤ f.a0 → faxContinue f st =
      { st with
        emitted := st.emitted ++ rowBytes st.cfg.w f.cur
        codec := .fax
          { phase := if st.cfg.unit? = some .g3 then .seekEol else .rowStart
            ref := f.cur
            cur := []
            col := .white
            a0 := if st.cfg.unit? = some .g4 then -1 else 0
            run := 0
            run1 := 0
            rows := f.rows + 1 } })

/-- R225 to R231: the mode codes where a mode code is read. -/
def Obligations.ReadModes : Prop :=
  ∀ (s : State) (f : FaxState), s.atFax f → modeHere s.strip.cfg f = true →
    let w := s.strip.cfg.w
    let vertical (k : Int) : State :=
      if (f.b1 w : Int) + k < f.pos ∨ (w : Int) < f.b1 w + k then s.streamFails .faxBadRun
      else (s.withStrip (faxContinue
        { f with
          cur := f.cur ++ List.replicate (((f.b1 w : Int) + k).toNat - f.pos) f.col.pixel
          a0 := (((f.b1 w : Int) + k).toNat : Nat)
          col := f.col.opposite
          phase := .mode } s.strip))
    exec .readP s = .next (s.withStrip (faxContinue
      { f with cur := f.cur ++ List.replicate (f.b2 w - f.pos) f.col.pixel, a0 := (f.b2 w : Nat), phase := .mode }
      s.strip)) ∧
    exec .readH s = .next (s.withCodec (.fax { f with phase := .hRun1, run := 0, run1 := 0 })) ∧
    exec .readV0 s = .next (vertical 0) ∧
    exec .readVr1 s = .next (vertical 1) ∧ exec .readVr2 s = .next (vertical 2) ∧
    exec .readVr3 s = .next (vertical 3) ∧
    exec .readVl1 s = .next (vertical (-1)) ∧ exec .readVl2 s = .next (vertical (-2)) ∧
    exec .readVl3 s = .next (vertical (-3)) ∧
    (∀ e, exec (.readExt e) s = .next
      (s.streamFails (if e = 0b111 then .faxUncompressed else .faxBadCode)))

/-- R223, R225: b1 is the least changing element of the other colour right of a0, b2 the least of either right
of b1, W where there is none; and b2 lies right of a0. -/
def Obligations.ChangingElements : Prop :=
  ∀ (f : FaxState) (w : Nat),
    let other (i : Nat) : Prop :=
      f.a0 < i ∧ isChange f.ref i = true ∧ pixelAt f.ref i = f.col.opposite.pixel
    let either (i : Nat) : Prop := f.b1 w < i ∧ isChange f.ref i = true
    f.b1 w ≤ w ∧ f.b2 w ≤ w ∧ (f.b1 w < w → other (f.b1 w)) ∧ (∀ i < f.b1 w, ¬ other i) ∧
      (f.b2 w < w → either (f.b2 w)) ∧ (∀ i < f.b2 w, ¬ either i) ∧ (f.a0 < w → f.a0 < f.b2 w)

/-- R233, R235: an EOL before a Group 3 row leads to a tag bit where T4OPT bit 0 is 1, else to a one-dimensional
row; tag 1 is a one-dimensional row, 0 a two-dimensional one. R236, R238: where a Group 3 row after its EOL and tag,
or a Group 4 row, would begin, the zeros of an EOL end the stream normally. Where a run or mode code is read, and
before a row of compression 2, an EOL is FAX_BAD_CODE (R197, R201, R224). Log 26. -/
def Obligations.Group3Framing : Prop :=
  ∀ (s : State) (f : FaxState), s.atFax f →
    (f.phase = .seekEol → exec .faxEol s = .next (s.withCodec (.fax
      (if s.strip.cfg.t4opt.getLsbD 0 then { f with phase := .tag }
      else { f with phase := .rowTest false, a0 := 0 })))) ∧
    (f.phase = .tag →
      exec (.g3Tag 1) s = .next
        (s.withCodec (.fax { f with phase := .rowTest false, a0 := 0 })) ∧
      exec (.g3Tag 0) s = .next
        (s.withCodec (.fax { f with phase := .rowTest true, a0 := -1 }))) ∧
    ((∃ twoD, f.phase = .rowTest twoD) ∨ (f.phase = .rowStart ∧ s.strip.cfg.unit? = some .g4) →
      exec .faxEol s = .next { s with strip := { s.strip with term := some .done } }) ∧
    (f.phase ∈ [.run1D, .mode, .hRun1, .hRun2] ∨ (f.phase = .rowStart ∧ s.strip.cfg.unit? = some .mh) →
      exec .faxEol s = .next (s.streamFails .faxBadCode))

/-- R191, R192, R221: every step of a fax unit keeps its state sound and its output whole rows of ceil(W / 8)
bytes, and a strip begins so. -/
def Obligations.FaxRowsKept : Prop :=
  (∀ (L : Latched) (f : FaxState), 1 ≤ L.w → f = FaxState.init L → f.Wf L) ∧
  ∀ s t : State, s.strip.term = none → s.strip.FaxWf → unitStep s = .next t → t.strip.FaxWf

/-! ### LogLuv: spec/46_logluv.md -/

/-- R283, R284, R290: a run and a literal fill the current plane; past its end they are LOGLUV_RUN, without their
bytes TRUNCATED; a full plane is complete, and the last one emits the row. That a literal of 0 bytes, like any other
control byte, begins a row, so that the input's end after it is TRUNCATED, is the model's reading (log 20); that both
mean the same on a raw LogLuv24 strip, where none is read, is its choice (log 38). -/
def Obligations.LogLuvRuns : Prop :=
  ∀ (s : State) (v : LogLuvState) (n : BitVec 7), s.atLogLuv v →
    let w := s.strip.cfg.w
    let fills (b : List Byte) (k : Nat) : State :=
      let plane := v.plane ++ b
      let planes := v.planes ++ [plane]
      let st := { s.strip with bc := s.strip.bc + 8 * k }
      { s with strip :=
        if plane.length < w then { st with codec := .logLuv { v with plane := plane, begun := true } }
        else if planes.length < planeCount s.strip.cfg then
          { st with codec := .logLuv { planes := planes, plane := [], begun := true } }
        else
          { st with
            emitted := st.emitted ++ logLuvRow Config.params s.strip.cfg (planeWords w planes)
            codec := .logLuv { planes := [], plane := [], begun := false } } }
    (s.strip.bytes = [] → exec (.logluvRun n) s = .next (s.streamFails .truncated)) ∧
    (∀ b rest, s.strip.bytes = b :: rest → exec (.logluvRun n) s = .next
      (if w < v.plane.length + (n.toNat + 2) then s.streamFails .logluvRun
      else fills (List.replicate (n.toNat + 2) b) 1)) ∧
    exec (.logluvLiteral n) s = .next
      (if w < v.plane.length + n.toNat then s.streamFails .logluvRun
      else if s.strip.bytes.length < n.toNat then s.streamFails .truncated
      else fills (s.strip.bytes.take n.toNat) n.toNat)

/-- R283, R285, R286, R292: a raw LogLuv24 row is three bytes a pixel, the first the most significant; the stream
ends where a row would begin, and is TRUNCATED inside one. In a table whose NCUM rises, the search gives the last row
that does not begin above the chrominance. -/
def Obligations.LogLuv24RowsAndSearch : Prop :=
  (∀ (P : Params) (v : LogLuvState) (st : StripState), st.codec = .logLuv v → rawRows P st.cfg = true →
    let w := st.cfg.w
    let byte (i : Nat) : Nat := (st.bytes.getD i 0).toNat
    fetch P st = .quiet
      (if st.bytes = [] then { st with term := some .done }
      else if st.bytes.length < 3 * w then { st with term := some (.error .truncated) }
      else { st with
        emitted := st.emitted ++ (List.range w).flatMap (fun i =>
          logLuvRgb P (xyz24 P (byte (3 * i) * 2 ^ 16 + byte (3 * i + 1) * 2 ^ 8 + byte (3 * i + 2))))
        bc := st.bc + 24 * w })) ∧
  ∀ (P : Params) (c : Nat), (∀ i j, i < j → j < 163 → (P.uvRow i).ncum < (P.uvRow j).ncum) →
    (P.uvRow 0).ncum ≤ c →
    let vi := uvSearch P c 163 0 163
    vi < 163 ∧ (P.uvRow vi).ncum ≤ c ∧ ∀ j, vi < j → j < 163 → c < (P.uvRow j).ncum

/-! ### JPEG: spec/47_jpeg.md -/

/-- R316, R333, R334: SOI is the first marker and no other may be; inside entropy-coded data EOI is TRUNCATED and
every other marker JPEG_BAD_DATA; at a restart point the expected RSTm goes on with predictors 0 and an empty bit
buffer, and every other marker is JPEG_RESTART. That the MCU row which ended at the restart point is emitted only when
its RSTm is accepted is the model's reading of R370 (log 24). -/
def Obligations.JpegMarkersByPhase : Prop :=
  ∀ (s : State) (j : JpegState), s.atJpeg j →
    (j.phase = .soi →
      exec .jpegSoi s = .next (s.withCodec (.jpeg { j with phase := .header })) ∧
      ∀ i m, markerCode i = some m → i ≠ .jpegSoi → exec i s = .next (s.streamFails .jpegNoSoi)) ∧
    (j.phase = .entropy → ∀ i m, markerCode i = some m →
      exec i s = .next (s.streamFails (if i = .jpegEoi then .truncated else .jpegBadData))) ∧
    (j.phase = .restart →
      (∀ m : BitVec 3, m.toNat = (j.mcu / j.tables.ri.toNat - 1) % 8 → exec (.jpegRstm m) s = .next
        (s.withStrip
          (flushRow { j with phase := .entropy, preds := j.preds.map (fun _ => 0), ebuf := [] } s.strip))) ∧
      ∀ i m, markerCode i = some m →
        (∀ k : BitVec 3, i = .jpegRstm k → k.toNat ≠ (j.mcu / j.tables.ri.toNat - 1) % 8) →
        exec i s = .next (s.streamFails .jpegRestart))

/-- R316, R320, R321, R328, R340: the markers that end the stream where header markers are read; EOI ends a tables
stream normally. -/
def Obligations.JpegMarkersInHeader : Prop :=
  ∀ (s : State) (j : JpegState), s.atJpeg j → j.phase = .header →
    (∀ i ∈ ([.jpegSof2, .jpegSof3, .jpegSof5, .jpegSof6, .jpegSof7, .jpegJpg, .jpegSof9, .jpegSof10, .jpegSof11,
        .jpegDac, .jpegSof13, .jpegSof14, .jpegSof15, .jpegDhp, .jpegExp] : List Instr),
      exec i s = .next (s.streamFails .jpegMode)) ∧
    exec .jpegDnl s = .next (s.streamFails .jpegDnl) ∧
    exec .jpegSoi s = .next (s.streamFails .jpegBadMarker) ∧
    exec .jpegTem s = .next (s.streamFails .jpegBadMarker) ∧
    (∀ m, exec (.jpegRstm m) s = .next (s.streamFails .jpegBadMarker)) ∧
    (∀ c, exec (.jpegRes c) s = .next (s.streamFails .jpegBadMarker)) ∧
    (j.tablesOnly = false → exec .jpegEoi s = .next (s.streamFails .jpegBadMarker)) ∧
    (j.tablesOnly = true →
      exec .jpegEoi s = .next { s with strip := { s.strip with term := some .done } } ∧
      exec .jpegSof0 s = .next (s.streamFails .jpegBadMarker) ∧
      exec .jpegSof1 s = .next (s.streamFails .jpegBadMarker) ∧
      exec .jpegSos s = .next (s.streamFails .jpegBadMarker)) ∧
    (j.frame = none → exec .jpegSos s = .next (s.streamFails .jpegBadMarker)) ∧
    (j.frame ≠ none →
      exec .jpegSof0 s = .next (s.streamFails .jpegBadMarker) ∧
      exec .jpegSof1 s = .next (s.streamFails .jpegBadMarker))

/-- R335, R370: after the scan EOI emits the last MCU row and ends the stream; SOS is JPEG_MULTISCAN, DNL JPEG_DNL,
and the markers that are neither skipped nor tables JPEG_BAD_MARKER (for those of R321's unsupported modes see
log 18). -/
def Obligations.JpegMarkersAfterScan : Prop :=
  ∀ (s : State) (j : JpegState), s.atJpeg j → j.phase = .tail →
    exec .jpegEoi s = .next
      { s with strip :=
        { s.strip with
          emitted := s.strip.emitted ++ mcuRowBytes s.strip.cfg j.frameD j.blocks (j.frameD.mcuRows - 1)
          term := some .done } } ∧
    exec .jpegSos s = .next (s.streamFails .jpegMultiscan) ∧
    exec .jpegDnl s = .next (s.streamFails .jpegDnl) ∧
    ∀ i m, markerCode i = some m → i ∉ ([.jpegEoi, .jpegSos, .jpegDnl, .jpegDqt, .jpegDht, .jpegDri, .jpegCom] :
      List Instr) → (∀ n, i ≠ .jpegAppn n) → exec i s = .next (s.streamFails .jpegBadMarker)

/-- R313, R315, R317 to R319, R321: where a segment is read, too few bytes are TRUNCATED and a length below 2 is
JPEG_BAD_SEGMENT; DQT, DHT and DRI act on the strip-local tables by their whole segment; APPn and COM skip theirs. -/
def Obligations.JpegSegments : Prop :=
  ∀ (s : State) (j : JpegState), s.atJpeg j → j.phase = .header ∨ j.phase = .tail →
    (∀ i : Instr, (i ∈ ([.jpegDqt, .jpegDht, .jpegDri, .jpegCom] : List Instr) ∨ ∃ n, i = .jpegAppn n) →
      (s.strip.bytes.length < 2 → exec i s = .next (s.streamFails .truncated)) ∧
      ∀ a b rest, s.strip.bytes = a :: b :: rest →
        (be16 a b < 2 → exec i s = .next (s.streamFails .jpegBadSegment)) ∧
        (2 ≤ be16 a b → rest.length + 2 < be16 a b → exec i s = .next (s.streamFails .truncated))) ∧
    ∀ a b body rest, s.strip.bytes = a :: b :: (body ++ rest) → be16 a b = body.length + 2 →
      let t : State := { s with strip := { s.strip with bc := s.strip.bc + 8 * (body.length + 2) } }
      let acts (r : Except ErrKind JpegTables) : State :=
        match r with
        | .error k => t.streamFails k
        | .ok T => t.withCodec (.jpeg { j with tables := T })
      exec .jpegCom s = .next t ∧ (∀ n, exec (.jpegAppn n) s = .next t) ∧
      exec .jpegDqt s = .next (acts (dqt body j.tables)) ∧ exec .jpegDht s = .next (acts (dht body j.tables)) ∧
      exec .jpegDri s = .next
        (match body with
        | [x, y] => acts (.ok { j.tables with ri := x ++ y })
        | _ => acts (.error .jpegBadSegment))

/-- R317, R332: a DQT table of bytes is stored in natural order, value k at ZZ[k], and replaces table Tq only; one
of byte pairs likewise. -/
def Obligations.DqtStoresNaturalOrder : Prop :=
  ∀ (T : JpegTables) (tq : Nat) (v : List Byte), tq < 4 →
    (v.length = 64 → ∃ T' l, dqt (BitVec.ofNat 8 tq :: v) T = .ok T' ∧ T'.q.get tq = some l ∧ l.length = 64 ∧
      (∀ k < 64, l[zigzag.getD k 0]? = v[k]?.map (·.setWidth 16)) ∧
      (∀ i < 4, i ≠ tq → T'.q.get i = T.q.get i) ∧ T' = { T with q := T'.q }) ∧
    (v.length = 128 → ∃ T' l, dqt (BitVec.ofNat 8 (16 + tq) :: v) T = .ok T' ∧ T'.q.get tq = some l ∧
      l.length = 64 ∧
      (∀ k < 64, (l.getD (zigzag.getD k 0) 0).toNat =
        256 * (v.getD (2 * k) 0).toNat + (v.getD (2 * k + 1) 0).toNat) ∧
      (∀ i < 4, i ≠ tq → T'.q.get i = T.q.get i) ∧ T' = { T with q := T'.q })

/-- R320: SOF0 and SOF1, before any other frame header of a strip, store the frame when its fields pass every check,
and only then; otherwise they end the stream with an error. With any other precision than 8 it is JPEG_PRECISION,
whatever else is wrong (that order is the model's reading, log 19). -/
def Obligations.JpegFrameHeader : Prop :=
  ∀ (s : State) (j : JpegState) (a b : Byte) (body rest : List Byte), s.atJpeg j → j.phase = .header →
    j.tablesOnly = false → j.frame = none → s.strip.bytes = a :: b :: (body ++ rest) →
    be16 a b = body.length + 2 →
    let L := s.strip.cfg
    let st := { s.strip with bc := s.strip.bc + 8 * (body.length + 2) }
    let stores (f : JpegFrame) : State := { s with strip := { st with codec := .jpeg { j with frame := some f } } }
    (∀ (y1 y0 x1 x0 nf : Byte) (recs : List Byte), body = 8 :: y1 :: y0 :: x1 :: x0 :: nf :: recs →
      let n := nf.toNat
      let field (i k : Nat) : Nat := (recs.getD (3 * i + k) 0).toNat
      1 ≤ n → recs.length = 3 * n →
      (∀ i < n, 1 ≤ field i 1 / 16 ∧ field i 1 / 16 ≤ 4 ∧ 1 ≤ field i 1 % 16 ∧ field i 1 % 16 ≤ 4 ∧ field i 2 ≤ 3) →
      (∀ i < n, ∀ k < i, field k 0 ≠ field i 0) →
      (1 < n → ((List.range n).map fun i => (field i 1 / 16) * (field i 1 % 16)).sum ≤ 10) →
      1 ≤ be16 y1 y0 → be16 x1 x0 = L.width.toNat → n = L.nc →
      ∀ i, i = .jpegSof0 ∨ i = .jpegSof1 → exec i s = .next (stores
        { y := be16 y1 y0
          x := be16 x1 x0
          comps := (List.range n).map fun i =>
            { id := field i 0, h := field i 1 / 16, v := field i 1 % 16, tq := field i 2 } })) ∧
    (∀ f, sof L body = .ok f →
      (∀ i, i = .jpegSof0 ∨ i = .jpegSof1 → exec i s = .next (stores f)) ∧
      body.head? = some 8 ∧ body.length = 6 + 3 * f.comps.length ∧
      f.x = L.width.toNat ∧ f.comps.length = L.nc ∧ 1 ≤ f.comps.length ∧ 1 ≤ f.y ∧
      (f.comps.map (·.id)).Nodup ∧
      (1 < f.comps.length → (f.comps.map fun c => c.h * c.v).sum ≤ 10) ∧
      ∀ c ∈ f.comps, 1 ≤ c.h ∧ c.h ≤ 4 ∧ 1 ≤ c.v ∧ c.v ≤ 4 ∧ c.tq ≤ 3) ∧
    (∀ k, sof L body = .error k → ∀ i, i = .jpegSof0 ∨ i = .jpegSof1 →
      exec i s = .next { s with strip := { st with term := some (.error k) } }) ∧
    (∀ p more, body = p :: more → p ≠ 8 → sof L body = .error .jpegPrecision)

/-- R328, R370: a scan header after the frame header starts the entropy-coded data, with predictors 0 and no MCU
done, when it lists the frame's components in order, with Ss, Se, Ah and Al 0, 63, 0 and 0 and with tables that are
defined, and only then; otherwise SOS ends the stream with an error. -/
def Obligations.JpegScanHeader : Prop :=
  ∀ (s : State) (j : JpegState) (f : JpegFrame) (a b : Byte) (body rest : List Byte), s.atJpeg j →
    j.phase = .header → j.tablesOnly = false → j.frame = some f → 1 ≤ f.total →
    s.strip.bytes = a :: b :: (body ++ rest) → be16 a b = body.length + 2 →
    let T := j.tables
    let n := f.comps.length
    let st := { s.strip with bc := s.strip.bc + 8 * (body.length + 2) }
    let starts (scan : List JpegScanComp) : State :=
      State.withCodec { s with strip := st } (.jpeg
        { j with
          scan := scan
          phase := .entropy
          preds := List.replicate n 0
          mcu := 0
          block := 0
          zz := []
          ebuf := []
          blocks := [] })
    (∀ sel : List Byte, body = BitVec.ofNat 8 n :: (sel ++ [0, 63, 0]) →
      let tables (i : Nat) : Nat := (sel.getD (2 * i + 1) 0).toNat
      1 ≤ n → n ≤ 4 → sel.length = 2 * n →
      (∀ i < n, some (sel.getD (2 * i) 0).toNat = f.comps[i]?.map (·.id)) →
      (∀ i < n, tables i / 16 ≤ 3 ∧ tables i % 16 ≤ 3 ∧ (T.dc.get (tables i / 16)).isSome = true ∧
        (T.ac.get (tables i % 16)).isSome = true) →
      (∀ c ∈ f.comps, (T.q.get c.tq).isSome = true) →
      exec .jpegSos s = .next
        (starts ((List.range n).map fun i => { td := tables i / 16, ta := tables i % 16 }))) ∧
    (∀ scan, sos T f body = .ok scan →
      exec .jpegSos s = .next (starts scan) ∧
      scan.length = n ∧ 1 ≤ n ∧ n ≤ 4 ∧ body.length = 4 + 2 * n ∧ (body.getD 0 0).toNat = n ∧
      (∀ i < n, some (body.getD (1 + 2 * i) 0).toNat = f.comps[i]?.map (·.id) ∧
        scan[i]? = some
          { td := (body.getD (2 + 2 * i) 0).toNat / 16, ta := (body.getD (2 + 2 * i) 0).toNat % 16 }) ∧
      body.drop (1 + 2 * n) = [0, 63, 0] ∧
      (∀ c ∈ f.comps, (T.q.get c.tq).isSome = true) ∧
      ∀ c ∈ scan, c.td ≤ 3 ∧ c.ta ≤ 3 ∧ (T.dc.get c.td).isSome = true ∧ (T.ac.get c.ta).isSome = true) ∧
    (∀ k, sos T f body = .error k →
      exec .jpegSos s = .next { s with strip := { st with term := some (.error k) } })

/-- R138, R330, R331: a stuffed byte, a DC symbol and the AC symbols, those that end a block among them. -/
def Obligations.JpegEntropySymbols : Prop :=
  ∀ (s : State) (j : JpegState), s.atJpeg j → j.phase = .entropy →
    exec .jpegStuff s = .next
      (s.withCodec (.jpeg { j with ebuf := j.ebuf ++ List.replicate 8 true })) ∧
    (j.zz = [] → ∀ (t : BitVec 8) (v : BitVec 16),
      (11 < t.toNat → exec (.jpegDcSymbol t v) s = .next (s.streamFails .jpegBadData)) ∧
      (t.toNat ≤ 11 →
        let pred := j.preds.getD j.comp 0 + extend v.toNat t.toNat
        exec (.jpegDcSymbol t v) s = .next (s.withCodec (.jpeg
          { j with preds := j.preds.set j.comp pred, zz := [pred] })))) ∧
    (1 ≤ j.zz.length → j.zz.length ≤ 63 → ∀ (r n : Nat) (v : BitVec 16), r < 16 → n < 16 →
      let k := j.zz.length
      let rs : BitVec 8 := BitVec.ofNat 8 (16 * r + n)
      (n = 0 → r = 15 → 48 < k → exec (.jpegAcSymbol rs v) s = .next (s.streamFails .jpegBadData)) ∧
      (n = 0 → r = 15 → k < 48 → exec (.jpegAcSymbol rs v) s =
        .next (s.withCodec (.jpeg { j with zz := j.zz ++ List.replicate 16 0 }))) ∧
      (n = 0 → r = 15 → k = 48 → exec (.jpegAcSymbol rs v) s = .next (s.withStrip
        (finishBlock Config.params j (j.zz ++ List.replicate 16 0) s.strip))) ∧
      (n = 0 → r < 15 → exec (.jpegAcSymbol rs v) s = .next (s.withStrip
        (finishBlock Config.params j (j.zz ++ List.replicate (64 - k) 0) s.strip))) ∧
      (n ≠ 0 → 10 < n ∨ 63 < k + r → exec (.jpegAcSymbol rs v) s = .next (s.streamFails .jpegBadData)) ∧
      (n ≠ 0 → n ≤ 10 → k + r < 63 → exec (.jpegAcSymbol rs v) s = .next (s.withCodec (.jpeg
        { j with zz := j.zz ++ List.replicate r 0 ++ [extend v.toNat n] }))) ∧
      (n ≠ 0 → n ≤ 10 → k + r = 63 → exec (.jpegAcSymbol rs v) s = .next (s.withStrip
        (finishBlock Config.params j (j.zz ++ List.replicate r 0 ++ [extend v.toNat n]) s.strip))))

/-- R329, R333, R334, R335, R370: a finished block joins its MCU row; after an MCU the unit goes on, stands at a
restart point or at the end of the scan, and at the last two the bit buffer is emptied; an MCU row that is not the
last is emitted when it is complete and no restart is due. -/
def Obligations.JpegBlockEnds : Prop :=
  ∀ (P : Params) (j : JpegState) (zz : List Int) (st : StripState),
    let f := j.frameD
    let q := (j.tables.q.get (((f.comps[j.comp]?).map (·.tq)).getD 0)).getD []
    let blocks := j.blocks ++ [blockSamples P q zz]
    let n := j.mcu + 1
    let ri := j.tables.ri.toNat
    let goes (g : JpegState) : StripState := { st with codec := .jpeg g }
    (j.block + 1 < f.blockComps.length → finishBlock P j zz st =
      goes { j with zz := [], blocks := blocks, block := j.block + 1 }) ∧
    (f.blockComps.length ≤ j.block + 1 →
      (f.total ≤ n → finishBlock P j zz st = goes
        { j with zz := [], blocks := blocks, block := 0, mcu := n, phase := .tail, ebuf := [] }) ∧
      (n < f.total → 0 < ri → n % ri = 0 → finishBlock P j zz st = goes
        { j with zz := [], blocks := blocks, block := 0, mcu := n, phase := .restart, ebuf := [] }) ∧
      (n < f.total → ri = 0 ∨ n % ri ≠ 0 → n % f.mcusPerRow ≠ 0 → finishBlock P j zz st =
        goes { j with zz := [], blocks := blocks, block := 0, mcu := n }) ∧
      (n < f.total → ri = 0 ∨ n % ri ≠ 0 → n % f.mcusPerRow = 0 → finishBlock P j zz st =
        { st with
          emitted := st.emitted ++ mcuRowBytes st.cfg f blocks (n / f.mcusPerRow - 1)
          codec := .jpeg { j with zz := [], blocks := [], block := 0, mcu := n } }))

/-- R332, R336, R337: a block with only its DC coefficient, whose dequantised value is 8·m, gives
clamp(m + 128, 0, 255) in all 64 positions. -/
def Obligations.DcOnlyBlock : Prop :=
  ∀ (q : List (BitVec 16)) (d m : Int), q.length = 64 → d * (q.getD 0 0).toNat = 8 * m →
    blockSamples Config.params q (d :: List.replicate 63 0) = List.replicate 64 (clampByte (m + 128))

/-- R322, R323, R325: in a table the builder makes, the code word of each HUFFVAL decodes to it, whatever
follows. -/
def Obligations.HuffmanDecodesItsCodes : Prop :=
  ∀ (bits : List Nat) (hv : List Byte) (h : HuffTable) (gen : List (Nat × Nat)) (k size code : Nat)
    (rest : List Bool), bits.length = 16 → hv.length = bits.sum → buildHuff bits hv = some h →
    huffGen bits 1 0 = some gen → gen[k]? = some (size, code) →
    huffRead h (cw size code ++ rest) = .value (hv.getD k 0) size

/-- R327, whole, and R92: EXTEND's values, and that no two strings of t bits have the same one. -/
def Obligations.ExtendValues : Prop :=
  (∀ v, extend v 0 = 0) ∧ extend 10 4 = 10 ∧ extend 5 4 = -10 ∧ extend 0 1 = -1 ∧ extend 1 1 = 1 ∧
  ∀ t : Nat, 1 ≤ t → ∀ v : Nat, v < 2 ^ t →
    (2 ^ (t - 1) ≤ v → extend v t = v) ∧ (v < 2 ^ (t - 1) → extend v t = (v : Int) - (2 ^ t - 1)) ∧
    2 ^ (t - 1) ≤ (extend v t).natAbs ∧ (extend v t).natAbs ≤ 2 ^ t - 1 ∧
    ∀ u < 2 ^ t, extend u t = extend v t → u = v

/-- R44, R317, R318, R340: every step keeps the JPEG tables whole, and they are whole after reset. -/
def Obligations.JpegTablesKept : Prop :=
  State.reset.TablesWf ∧ ∀ s t : State, s.TablesWf → step s = .next t → t.TablesWf

/-! ### YCbCr: spec/48_ycbcr.md -/

/-- R389, R385: with factors (1, 1) the upsampled chroma is the input one for one; with (2, 2) centered pixel (0, 0)
takes the first sample, and so does each other corner its own where the image is even on the axes it lies at the far
end of (log 37); and no interpolated value leaves the range of the samples. -/
def Obligations.ChromaUpsampling : Prop :=
  ∀ (u : Upsampling) (b : List Byte) (plane : Nat), 1 ≤ u.w → 1 ≤ u.h →
    (u.hs = 1 → u.vs = 1 → ∀ x < u.w, ∀ y < u.h, (u.up b plane x y).toNat = u.chroma b plane x y) ∧
    (u.hs = 2 → u.vs = 2 → u.posn = 1 →
      (u.up b plane 0 0).toNat = u.chroma b plane 0 0 ∧
      (u.w % 2 = 0 → (u.up b plane (u.w - 1) 0).toNat = u.chroma b plane (u.nbx - 1) 0) ∧
      (u.h % 2 = 0 → (u.up b plane 0 (u.h - 1)).toNat = u.chroma b plane 0 (u.nby - 1)) ∧
      (u.w % 2 = 0 → u.h % 2 = 0 → (u.up b plane (u.w - 1) (u.h - 1)).toNat = u.chroma b plane (u.nbx - 1) (u.nby - 1))) ∧
    (1 ≤ u.hs → 1 ≤ u.vs → ∀ lo hi : Nat,
      (∀ bx < u.nbx, ∀ by' < u.nby, lo ≤ u.chroma b plane bx by' ∧ u.chroma b plane bx by' ≤ hi) → hi ≤ 255 →
      ∀ x < u.w, ∀ y < u.h, lo ≤ (u.up b plane x y).toNat ∧ (u.up b plane x y).toNat ≤ hi)

/-- R381, R382: with the reset coefficients a pixel of neutral chroma is grey. -/
def Obligations.NeutralChromaIsGrey : Prop :=
  ∀ y : Byte, ycbcrToRgb YccCoefs.reset y 128 128 = [y, y, y]

/-! ### The whole machine -/

/-- R22, R60, R102, R103, R424, R425: every step keeps the invariant of the block's states, whatever state it starts
in. -/
def Obligations.InvariantKept : Prop :=
  ∀ s t : State, s.Inv → step s = .next t → t.Inv

/-- R450: the state after reset has it. -/
def Obligations.InvariantAtReset : Prop :=
  State.reset.Inv
end

