-- ==== Sys2Proof/Laws/Idct.lean ====
section
/-! SUPPORT. The reference inverse DCT of spec/47_jpeg.md R336, over the real numbers, and that it meets the one
constraint R336 puts on every realisation. The machine uses the parameter IDCT8 (log 5, log 36). -/

namespace Sys2Proof.Laws

/-- `C(w)` of R336. -/
noncomputable def dctScale (w : Nat) : ℝ := if w = 0 then 1 / √2 else 1

/-- One term of R336's double sum, at column `x` and row `y`. -/
noncomputable def dctTerm (F : List Int) (x y u v : Nat) : ℝ :=
  dctScale u * dctScale v * (F.getD (8 * v + u) 0 : ℝ) * Real.cos ((2 * x + 1) * u * Real.pi / 16) *
    Real.cos ((2 * y + 1) * v * Real.pi / 16)

/-- `IDCT8_REF` (R336): natural order in, natural order out. -/
noncomputable def idct8Ref (F : List Int) : List Int :=
  (List.range 64).map fun i =>
    ⌊1 / 4 * (∑ u ∈ Finset.range 8, ∑ v ∈ Finset.range 8, dctTerm F (i % 8) (i / 8) u v) + 1 / 2⌋

theorem getD_dc_only (m : Int) (n k : Nat) (h : k ≠ 0) : (m :: List.replicate n (0 : Int)).getD k 0 = 0 := by
  obtain ⟨k, rfl⟩ := Nat.exists_eq_succ_of_ne_zero h
  rw [List.getD_cons_succ, List.getD_eq_getElem?_getD, List.getElem?_replicate]
  split <;> rfl

/-- R336: a block whose only non-zero coefficient is `F[0] = 8·m` gives `m` in all 64 positions. -/
theorem idct8Ref_dc_only (m : Int) :
    idct8Ref (8 * m :: List.replicate 63 0) = List.replicate 64 m := by
  have h0 : ∀ x y u v : Nat, u ≠ 0 ∨ v ≠ 0 → dctTerm (8 * m :: List.replicate 63 0) x y u v = 0 := by
    intro x y u v h
    have : 8 * v + u ≠ 0 := by omega
    rw [dctTerm, getD_dc_only _ _ _ this]
    simp
  have h : ∀ x y : Nat, ∑ u ∈ Finset.range 8, ∑ v ∈ Finset.range 8,
      dctTerm (8 * m :: List.replicate 63 0) x y u v = 4 * m := by
    intro x y
    rw [Finset.sum_eq_single 0, Finset.sum_eq_single 0]
    · have hs : (√2 : ℝ) * √2 = 2 := Real.mul_self_sqrt (by norm_num)
      have hn : (√2 : ℝ) ≠ 0 := by positivity
      simp only [dctTerm, dctScale, if_true]
      have : (1 / √2 : ℝ) * (1 / √2) = 1 / 2 := by
        rw [div_mul_div_comm, hs]
        norm_num
      simp [List.getD]
      have h2 : (√2 : ℝ)⁻¹ * (√2)⁻¹ = 1 / 2 := by simpa using this
      rw [h2]
      ring
    · intro v _ hv
      exact h0 x y 0 v (Or.inr hv)
    · simp
    · intro u _ hu
      exact Finset.sum_eq_zero fun v _ => h0 x y u v (Or.inl hu)
    · simp
  have hf : ⌊(1 : ℝ) / 4 * (4 * m) + 1 / 2⌋ = m := by
    rw [Int.floor_eq_iff]
    constructor <;> linarith
  unfold idct8Ref
  simp only [h, hf]
  rfl

end Sys2Proof.Laws
end

