-- ==== Sys2Proof/Laws/Inflate.lean ====
section
/-! SUPPORT. What the inflate primitive's run can do (spec/49_deflate.md R410, R412): whatever the primitive makes of
each byte, bytes after the end of the zlib stream do not count, and more input only adds output. -/

namespace Sys2Proof.Machine

open Sys2Proof

/-- A byte the primitive goes on from. -/
theorem inflateFrom_goesOn {P : Params} {seen out : List Byte} {b : Byte} (h : P.inflateByte seen b = (out, .goesOn))
    (rest : List Byte) :
    inflateFrom P seen (b :: rest) =
      (out ++ (inflateFrom P (seen ++ [b]) rest).1, (inflateFrom P (seen ++ [b]) rest).2) := by
  simp only [inflateFrom, h]

/-- The byte that ends the zlib stream: what follows is not looked at. -/
theorem inflateFrom_ends {P : Params} {seen out : List Byte} {b : Byte} (h : P.inflateByte seen b = (out, .ends))
    (rest : List Byte) : inflateFrom P seen (b :: rest) = (out, true) := by
  simp only [inflateFrom, h]

/-- A byte that shows the stream to be malformed. -/
theorem inflateFrom_faults {P : Params} {seen out : List Byte} {b : Byte} (h : P.inflateByte seen b = (out, .faults))
    (rest : List Byte) : inflateFrom P seen (b :: rest) = (out, false) := by
  simp only [inflateFrom, h]

/-- Once the zlib stream has ended, more bytes change nothing. -/
theorem inflateFrom_append {P : Params} (z x : List Byte) :
    ∀ seen, (inflateFrom P seen z).2 = true → inflateFrom P seen (z ++ x) = inflateFrom P seen z := by
  induction z with
  | nil => intro seen h; cases h
  | cons b z ih =>
    intro seen h
    rcases hb : P.inflateByte seen b with ⟨out, _ | _ | _⟩
    · rw [inflateFrom_goesOn hb] at h
      rw [List.cons_append, inflateFrom_goesOn hb, inflateFrom_goesOn hb, ih _ h]
    · rw [List.cons_append, inflateFrom_ends hb, inflateFrom_ends hb]
    · rw [inflateFrom_faults hb] at h
      cases h

/-- What is produced from the first bytes is the first part of what is produced from all of them. -/
theorem inflateFrom_isPrefix {P : Params} (z x : List Byte) :
    ∀ seen, (inflateFrom P seen z).1 <+: (inflateFrom P seen (z ++ x)).1 := by
  induction z with
  | nil => intro seen; exact List.nil_prefix
  | cons b z ih =>
    intro seen
    rcases hb : P.inflateByte seen b with ⟨out, _ | _ | _⟩
    · rw [List.cons_append, inflateFrom_goesOn hb, inflateFrom_goesOn hb]
      exact List.prefix_append_right_inj _ |>.mpr (ih _)
    · rw [List.cons_append, inflateFrom_ends hb, inflateFrom_ends hb]
    · rw [List.cons_append, inflateFrom_faults hb, inflateFrom_faults hb]

end Sys2Proof.Machine
end

