-- ==== Sys2Proof/Laws/Memory.lean ====
section
/-! SUPPORT. The laws of the byte spaces: reading after a write, and the canonical form, which every memory
operation keeps. -/

namespace Sys2Proof.Machine

open Sys2Proof

/-- A byte just written reads back. -/
theorem memGet_memSet_same (m : Memory) (a : Nat) (b : Byte) : memGet (memSet m a b) a = some b := by
  induction m with
  | nil => simp [memSet, memGet]
  | cons p m ih =>
    obtain ⟨k, c⟩ := p
    unfold memSet
    split
    · simp [memGet]
    · split
      · simp [memGet]
      · rename_i h
        simp [memGet, Ne.symm h, ih]

/-- A write leaves every other address alone. -/
theorem memGet_memSet_ne (m : Memory) {a x : Nat} (b : Byte) (h : x ≠ a) :
    memGet (memSet m a b) x = memGet m x := by
  induction m with
  | nil => simp [memSet, memGet, Ne.symm h]
  | cons p m ih =>
    obtain ⟨k, c⟩ := p
    unfold memSet
    split
    · simp [memGet, Ne.symm h]
    · split
      · rename_i hk
        subst hk
        simp [memGet, Ne.symm h]
      · simp [memGet, ih]

/-- What a list of bytes stored from `a` on leaves at `x`. -/
theorem memGet_memWrite (bs : List Byte) : ∀ (m : Memory) (a x : Nat),
    memGet (memWrite m a bs) x =
      if a ≤ x ∧ x < a + bs.length then bs[x - a]? else memGet m x := by
  induction bs with
  | nil => intro m a x; simp [memWrite]
  | cons b bs ih =>
    intro m a x
    rw [memWrite, ih]
    by_cases hx : x = a
    · subst hx
      simp [memGet_memSet_same]
    · rw [memGet_memSet_ne _ _ hx]
      by_cases h1 : a + 1 ≤ x ∧ x < a + 1 + bs.length
      · have h2 : a ≤ x ∧ x < a + (b :: bs).length := by simp; omega
        rw [if_pos h1, if_pos h2]
        obtain ⟨d, rfl⟩ : ∃ d, x = a + 1 + d := ⟨x - (a + 1), by omega⟩
        have e1 : a + 1 + d - (a + 1) = d := by omega
        have e2 : a + 1 + d - a = d + 1 := by omega
        simp [e1, e2]
      · have h2 : ¬ (a ≤ x ∧ x < a + (b :: bs).length) := by simp; omega
        rw [if_neg h1, if_neg h2]

/-- The addresses after a cell's are above it. -/
theorem memWf_cons {size a : Nat} {b : Byte} {m : Memory} :
    memWf size ((a, b) :: m) = true ↔
      a < size ∧ memWf size m = true ∧ ∀ c : Nat × Byte, m.head? = some c → a < c.1 := by
  cases m with
  | nil => simp [memWf]
  | cons p m =>
    obtain ⟨k, c⟩ := p
    simp only [memWf, Bool.and_eq_true, decide_eq_true_eq, List.head?_cons, Option.some.injEq]
    constructor
    · rintro ⟨h1, h2⟩
      have : k < size := by
        cases m with
        | nil => simpa [memWf] using h2
        | cons q m => exact (memWf_cons.1 h2).1
      exact ⟨by omega, h2, by rintro _ rfl; exact h1⟩
    · rintro ⟨_, h2, h3⟩
      exact ⟨h3 _ rfl, h2⟩

/-- The first address after a store is the stored one or the old first. -/
theorem memSet_head (m : Memory) (a : Nat) (b : Byte) (c : Nat × Byte)
    (h : (memSet m a b).head? = some c) : c.1 = a ∨ m.head? = some c := by
  cases m with
  | nil => simp [memSet] at h; simp [← h]
  | cons p m =>
    obtain ⟨k, d⟩ := p
    unfold memSet at h
    split at h
    · simp at h; simp [← h]
    · split at h
      · simp at h; simp [← h]
      · simp at h; simp [← h]

/-- A store inside the space keeps the canonical form. -/
theorem memWf_memSet {size : Nat} (m : Memory) {a : Nat} (b : Byte) (ha : a < size)
    (hm : memWf size m = true) : memWf size (memSet m a b) = true := by
  induction m with
  | nil => simp [memSet, memWf, ha]
  | cons p m ih =>
    obtain ⟨k, c⟩ := p
    obtain ⟨hk, hw, hh⟩ := memWf_cons.1 hm
    unfold memSet
    split
    · rename_i hlt
      exact memWf_cons.2 ⟨ha, hm, by rintro _ h; simp at h; simp [← h, hlt]⟩
    · split
      · rename_i h
        subst h
        exact memWf_cons.2 ⟨ha, hw, hh⟩
      · refine memWf_cons.2 ⟨hk, ih hw, fun d hd => ?_⟩
        rcases memSet_head m a b d hd with h | h
        · omega
        · exact hh d h

/-- A store of consecutive bytes inside the space keeps the canonical form. -/
theorem memWf_memWrite {size : Nat} (bs : List Byte) : ∀ (m : Memory) (a : Nat),
    a + bs.length ≤ size → memWf size m = true → memWf size (memWrite m a bs) = true := by
  induction bs with
  | nil => intro m a _ h; exact h
  | cons b bs ih =>
    intro m a hs h
    simp only [List.length_cons] at hs
    exact ih _ _ (by omega) (memWf_memSet m b (by omega) h)

/-- Reset's byte spaces are in canonical form. -/
theorem memWf_nil (size : Nat) : memWf size [] = true := rfl

end Sys2Proof.Machine
end

