-- ==== Sys2Proof/Laws/State.lean ====
section
/-! SUPPORT. One lemma for each field and each named update of the state, so that no proof unfolds a record update.
-/

namespace Sys2Proof.Machine

open Sys2Proof Host

/-! ### Results and errors -/

@[simp] theorem State.deliver_regs (s : State) (b : List Byte) : (s.deliver b).regs = s.regs := rfl
@[simp] theorem State.deliver_latch (s : State) (b : List Byte) : (s.deliver b).latch = s.latch := rfl
@[simp] theorem State.deliver_sliceActive (s : State) (b : List Byte) : (s.deliver b).sliceActive = s.sliceActive := rfl
@[simp] theorem State.deliver_stripActive (s : State) (b : List Byte) : (s.deliver b).stripActive = s.stripActive := rfl
@[simp] theorem State.deliver_outValid (s : State) (b : List Byte) : (s.deliver b).outValid = true := rfl
@[simp] theorem State.deliver_tablesLoaded (s : State) (b : List Byte) : (s.deliver b).tablesLoaded = s.tablesLoaded := rfl
@[simp] theorem State.deliver_lzwOld (s : State) (b : List Byte) : (s.deliver b).lzwOld = s.lzwOld := rfl
@[simp] theorem State.deliver_outLen (s : State) (b : List Byte) : (s.deliver b).outLen = BitVec.ofNat 32 b.length := rfl
@[simp] theorem State.deliver_pos (s : State) (b : List Byte) : (s.deliver b).pos = s.pos := rfl
@[simp] theorem State.deliver_inMem (s : State) (b : List Byte) : (s.deliver b).inMem = s.inMem := rfl
@[simp] theorem State.deliver_outMem (s : State) (b : List Byte) : (s.deliver b).outMem = memWrite s.outMem 0 b := rfl
@[simp] theorem State.deliver_strip (s : State) (b : List Byte) : (s.deliver b).strip = s.strip := rfl
@[simp] theorem State.deliver_tables (s : State) (b : List Byte) : (s.deliver b).tables = s.tables := rfl
@[simp] theorem State.deliver_hostQueue (s : State) (b : List Byte) : (s.deliver b).hostQueue = s.hostQueue := rfl
@[simp] theorem State.deliver_readBack (s : State) (b : List Byte) : (s.deliver b).readBack = s.readBack := rfl
@[simp] theorem State.deliver_focus (s : State) (b : List Byte) : (s.deliver b).focus = s.focus := rfl
@[simp] theorem State.deliver_epoch (s : State) (b : List Byte) : (s.deliver b).epoch = s.epoch := rfl
@[simp] theorem State.deliver_draws (s : State) (b : List Byte) : (s.deliver b).draws = s.draws := rfl

@[simp] theorem State.spoilOut_regs (s : State) (n : Nat) : (s.spoilOut n).regs = s.regs := rfl
@[simp] theorem State.spoilOut_latch (s : State) (n : Nat) : (s.spoilOut n).latch = s.latch := rfl
@[simp] theorem State.spoilOut_sliceActive (s : State) (n : Nat) : (s.spoilOut n).sliceActive = s.sliceActive := rfl
@[simp] theorem State.spoilOut_stripActive (s : State) (n : Nat) : (s.spoilOut n).stripActive = s.stripActive := rfl
@[simp] theorem State.spoilOut_outValid (s : State) (n : Nat) : (s.spoilOut n).outValid = false := rfl
@[simp] theorem State.spoilOut_tablesLoaded (s : State) (n : Nat) : (s.spoilOut n).tablesLoaded = s.tablesLoaded := rfl
@[simp] theorem State.spoilOut_lzwOld (s : State) (n : Nat) : (s.spoilOut n).lzwOld = s.lzwOld := rfl
@[simp] theorem State.spoilOut_outLen (s : State) (n : Nat) : (s.spoilOut n).outLen = s.outLen := rfl
@[simp] theorem State.spoilOut_pos (s : State) (n : Nat) : (s.spoilOut n).pos = s.pos := rfl
@[simp] theorem State.spoilOut_inMem (s : State) (n : Nat) : (s.spoilOut n).inMem = s.inMem := rfl
@[simp] theorem State.spoilOut_outMem (s : State) (n : Nat) : (s.spoilOut n).outMem = memWrite s.outMem 0 ((List.range n).map (Config.outDraw s.draws)) := rfl
@[simp] theorem State.spoilOut_strip (s : State) (n : Nat) : (s.spoilOut n).strip = s.strip := rfl
@[simp] theorem State.spoilOut_tables (s : State) (n : Nat) : (s.spoilOut n).tables = s.tables := rfl
@[simp] theorem State.spoilOut_hostQueue (s : State) (n : Nat) : (s.spoilOut n).hostQueue = s.hostQueue := rfl
@[simp] theorem State.spoilOut_readBack (s : State) (n : Nat) : (s.spoilOut n).readBack = s.readBack := rfl
@[simp] theorem State.spoilOut_focus (s : State) (n : Nat) : (s.spoilOut n).focus = s.focus := rfl
@[simp] theorem State.spoilOut_epoch (s : State) (n : Nat) : (s.spoilOut n).epoch = s.epoch := rfl
@[simp] theorem State.spoilOut_draws (s : State) (n : Nat) : (s.spoilOut n).draws = s.draws + 1 := rfl

@[simp] theorem State.raise_regs (s : State) (k : ErrKind) (r t : Word) : (s.raise k r t).regs = s.regs := by
  unfold State.raise; split <;> rfl
@[simp] theorem State.raise_sliceActive (s : State) (k : ErrKind) (r t : Word) : (s.raise k r t).sliceActive = s.sliceActive := by
  unfold State.raise; split <;> rfl
@[simp] theorem State.raise_tablesLoaded (s : State) (k : ErrKind) (r t : Word) : (s.raise k r t).tablesLoaded = s.tablesLoaded := by
  unfold State.raise; split <;> rfl
@[simp] theorem State.raise_lzwOld (s : State) (k : ErrKind) (r t : Word) : (s.raise k r t).lzwOld = s.lzwOld := by
  unfold State.raise; split <;> rfl
@[simp] theorem State.raise_outLen (s : State) (k : ErrKind) (r t : Word) : (s.raise k r t).outLen = s.outLen := by
  unfold State.raise; split <;> rfl
@[simp] theorem State.raise_pos (s : State) (k : ErrKind) (r t : Word) : (s.raise k r t).pos = s.pos := by
  unfold State.raise; split <;> rfl
@[simp] theorem State.raise_inMem (s : State) (k : ErrKind) (r t : Word) : (s.raise k r t).inMem = s.inMem := by
  unfold State.raise; split <;> rfl
@[simp] theorem State.raise_outMem (s : State) (k : ErrKind) (r t : Word) : (s.raise k r t).outMem = s.outMem := by
  unfold State.raise; split <;> rfl
@[simp] theorem State.raise_strip (s : State) (k : ErrKind) (r t : Word) : (s.raise k r t).strip = s.strip := by
  unfold State.raise; split <;> rfl
@[simp] theorem State.raise_tables (s : State) (k : ErrKind) (r t : Word) : (s.raise k r t).tables = s.tables := by
  unfold State.raise; split <;> rfl
@[simp] theorem State.raise_hostQueue (s : State) (k : ErrKind) (r t : Word) : (s.raise k r t).hostQueue = s.hostQueue := by
  unfold State.raise; split <;> rfl
@[simp] theorem State.raise_readBack (s : State) (k : ErrKind) (r t : Word) : (s.raise k r t).readBack = s.readBack := by
  unfold State.raise; split <;> rfl
@[simp] theorem State.raise_focus (s : State) (k : ErrKind) (r t : Word) : (s.raise k r t).focus = s.focus := by
  unfold State.raise; split <;> rfl
@[simp] theorem State.raise_epoch (s : State) (k : ErrKind) (r t : Word) : (s.raise k r t).epoch = s.epoch := by
  unfold State.raise; split <;> rfl
@[simp] theorem State.raise_draws (s : State) (k : ErrKind) (r t : Word) : (s.raise k r t).draws = s.draws := by
  unfold State.raise; split <;> rfl

@[simp] theorem State.raiseDecode_regs (s : State) (k : ErrKind) : (s.raiseDecode k).regs = s.regs := by simp [State.raiseDecode]
@[simp] theorem State.raiseDecode_sliceActive (s : State) (k : ErrKind) : (s.raiseDecode k).sliceActive = s.sliceActive := by simp [State.raiseDecode]
@[simp] theorem State.raiseDecode_tablesLoaded (s : State) (k : ErrKind) : (s.raiseDecode k).tablesLoaded = s.tablesLoaded := by simp [State.raiseDecode]
@[simp] theorem State.raiseDecode_lzwOld (s : State) (k : ErrKind) : (s.raiseDecode k).lzwOld = s.lzwOld := by simp [State.raiseDecode]
@[simp] theorem State.raiseDecode_outLen (s : State) (k : ErrKind) : (s.raiseDecode k).outLen = s.outLen := by simp [State.raiseDecode]
@[simp] theorem State.raiseDecode_pos (s : State) (k : ErrKind) : (s.raiseDecode k).pos = s.pos := by simp [State.raiseDecode]
@[simp] theorem State.raiseDecode_inMem (s : State) (k : ErrKind) : (s.raiseDecode k).inMem = s.inMem := by simp [State.raiseDecode]
@[simp] theorem State.raiseDecode_outMem (s : State) (k : ErrKind) : (s.raiseDecode k).outMem = s.outMem := by simp [State.raiseDecode]
@[simp] theorem State.raiseDecode_strip (s : State) (k : ErrKind) : (s.raiseDecode k).strip = s.strip := by simp [State.raiseDecode]
@[simp] theorem State.raiseDecode_tables (s : State) (k : ErrKind) : (s.raiseDecode k).tables = s.tables := by simp [State.raiseDecode]
@[simp] theorem State.raiseDecode_hostQueue (s : State) (k : ErrKind) : (s.raiseDecode k).hostQueue = s.hostQueue := by simp [State.raiseDecode]
@[simp] theorem State.raiseDecode_readBack (s : State) (k : ErrKind) : (s.raiseDecode k).readBack = s.readBack := by simp [State.raiseDecode]
@[simp] theorem State.raiseDecode_focus (s : State) (k : ErrKind) : (s.raiseDecode k).focus = s.focus := by simp [State.raiseDecode]
@[simp] theorem State.raiseDecode_epoch (s : State) (k : ErrKind) : (s.raiseDecode k).epoch = s.epoch := by simp [State.raiseDecode]
@[simp] theorem State.raiseDecode_draws (s : State) (k : ErrKind) : (s.raiseDecode k).draws = s.draws := by simp [State.raiseDecode]

@[simp] theorem State.raiseStream_regs (s : State) (k : ErrKind) (n : Nat) : (s.raiseStream k n).regs = s.regs := by simp [State.raiseStream]
@[simp] theorem State.raiseStream_sliceActive (s : State) (k : ErrKind) (n : Nat) : (s.raiseStream k n).sliceActive = s.sliceActive := by simp [State.raiseStream]
@[simp] theorem State.raiseStream_tablesLoaded (s : State) (k : ErrKind) (n : Nat) : (s.raiseStream k n).tablesLoaded = s.tablesLoaded := by simp [State.raiseStream]
@[simp] theorem State.raiseStream_lzwOld (s : State) (k : ErrKind) (n : Nat) : (s.raiseStream k n).lzwOld = s.lzwOld := by simp [State.raiseStream]
@[simp] theorem State.raiseStream_outLen (s : State) (k : ErrKind) (n : Nat) : (s.raiseStream k n).outLen = s.outLen := by simp [State.raiseStream]
@[simp] theorem State.raiseStream_pos (s : State) (k : ErrKind) (n : Nat) : (s.raiseStream k n).pos = s.pos := by simp [State.raiseStream]
@[simp] theorem State.raiseStream_inMem (s : State) (k : ErrKind) (n : Nat) : (s.raiseStream k n).inMem = s.inMem := by simp [State.raiseStream]
@[simp] theorem State.raiseStream_outMem (s : State) (k : ErrKind) (n : Nat) : (s.raiseStream k n).outMem = s.outMem := by simp [State.raiseStream]
@[simp] theorem State.raiseStream_strip (s : State) (k : ErrKind) (n : Nat) : (s.raiseStream k n).strip = s.strip := by simp [State.raiseStream]
@[simp] theorem State.raiseStream_tables (s : State) (k : ErrKind) (n : Nat) : (s.raiseStream k n).tables = s.tables := by simp [State.raiseStream]
@[simp] theorem State.raiseStream_hostQueue (s : State) (k : ErrKind) (n : Nat) : (s.raiseStream k n).hostQueue = s.hostQueue := by simp [State.raiseStream]
@[simp] theorem State.raiseStream_readBack (s : State) (k : ErrKind) (n : Nat) : (s.raiseStream k n).readBack = s.readBack := by simp [State.raiseStream]
@[simp] theorem State.raiseStream_focus (s : State) (k : ErrKind) (n : Nat) : (s.raiseStream k n).focus = s.focus := by simp [State.raiseStream]
@[simp] theorem State.raiseStream_epoch (s : State) (k : ErrKind) (n : Nat) : (s.raiseStream k n).epoch = s.epoch := by simp [State.raiseStream]
@[simp] theorem State.raiseStream_draws (s : State) (k : ErrKind) (n : Nat) : (s.raiseStream k n).draws = s.draws := by simp [State.raiseStream]

@[simp] theorem State.raiseOther_regs (s : State) (k : ErrKind) : (s.raiseOther k).regs = s.regs := by simp [State.raiseOther]
@[simp] theorem State.raiseOther_sliceActive (s : State) (k : ErrKind) : (s.raiseOther k).sliceActive = s.sliceActive := by simp [State.raiseOther]
@[simp] theorem State.raiseOther_tablesLoaded (s : State) (k : ErrKind) : (s.raiseOther k).tablesLoaded = s.tablesLoaded := by simp [State.raiseOther]
@[simp] theorem State.raiseOther_lzwOld (s : State) (k : ErrKind) : (s.raiseOther k).lzwOld = s.lzwOld := by simp [State.raiseOther]
@[simp] theorem State.raiseOther_outLen (s : State) (k : ErrKind) : (s.raiseOther k).outLen = s.outLen := by simp [State.raiseOther]
@[simp] theorem State.raiseOther_pos (s : State) (k : ErrKind) : (s.raiseOther k).pos = s.pos := by simp [State.raiseOther]
@[simp] theorem State.raiseOther_inMem (s : State) (k : ErrKind) : (s.raiseOther k).inMem = s.inMem := by simp [State.raiseOther]
@[simp] theorem State.raiseOther_outMem (s : State) (k : ErrKind) : (s.raiseOther k).outMem = s.outMem := by simp [State.raiseOther]
@[simp] theorem State.raiseOther_strip (s : State) (k : ErrKind) : (s.raiseOther k).strip = s.strip := by simp [State.raiseOther]
@[simp] theorem State.raiseOther_tables (s : State) (k : ErrKind) : (s.raiseOther k).tables = s.tables := by simp [State.raiseOther]
@[simp] theorem State.raiseOther_hostQueue (s : State) (k : ErrKind) : (s.raiseOther k).hostQueue = s.hostQueue := by simp [State.raiseOther]
@[simp] theorem State.raiseOther_readBack (s : State) (k : ErrKind) : (s.raiseOther k).readBack = s.readBack := by simp [State.raiseOther]
@[simp] theorem State.raiseOther_focus (s : State) (k : ErrKind) : (s.raiseOther k).focus = s.focus := by simp [State.raiseOther]
@[simp] theorem State.raiseOther_epoch (s : State) (k : ErrKind) : (s.raiseOther k).epoch = s.epoch := by simp [State.raiseOther]
@[simp] theorem State.raiseOther_draws (s : State) (k : ErrKind) : (s.raiseOther k).draws = s.draws := by simp [State.raiseOther]

@[simp] theorem State.clearLatch_regs (s : State) : (s.clearLatch).regs = s.regs := rfl
@[simp] theorem State.clearLatch_latch (s : State) : (s.clearLatch).latch = none := rfl
@[simp] theorem State.clearLatch_sliceActive (s : State) : (s.clearLatch).sliceActive = s.sliceActive := rfl
@[simp] theorem State.clearLatch_stripActive (s : State) : (s.clearLatch).stripActive = s.stripActive := rfl
@[simp] theorem State.clearLatch_outValid (s : State) : (s.clearLatch).outValid = s.outValid := rfl
@[simp] theorem State.clearLatch_tablesLoaded (s : State) : (s.clearLatch).tablesLoaded = s.tablesLoaded := rfl
@[simp] theorem State.clearLatch_lzwOld (s : State) : (s.clearLatch).lzwOld = s.lzwOld := rfl
@[simp] theorem State.clearLatch_outLen (s : State) : (s.clearLatch).outLen = s.outLen := rfl
@[simp] theorem State.clearLatch_pos (s : State) : (s.clearLatch).pos = s.pos := rfl
@[simp] theorem State.clearLatch_inMem (s : State) : (s.clearLatch).inMem = s.inMem := rfl
@[simp] theorem State.clearLatch_outMem (s : State) : (s.clearLatch).outMem = s.outMem := rfl
@[simp] theorem State.clearLatch_strip (s : State) : (s.clearLatch).strip = s.strip := rfl
@[simp] theorem State.clearLatch_tables (s : State) : (s.clearLatch).tables = s.tables := rfl
@[simp] theorem State.clearLatch_hostQueue (s : State) : (s.clearLatch).hostQueue = s.hostQueue := rfl
@[simp] theorem State.clearLatch_readBack (s : State) : (s.clearLatch).readBack = s.readBack := rfl
@[simp] theorem State.clearLatch_focus (s : State) : (s.clearLatch).focus = s.focus := rfl
@[simp] theorem State.clearLatch_epoch (s : State) : (s.clearLatch).epoch = s.epoch := rfl
@[simp] theorem State.clearLatch_draws (s : State) : (s.clearLatch).draws = s.draws := rfl

/-! ### Commands -/

@[simp] theorem State.dropStrip_regs (s : State) : (s.dropStrip).regs = s.regs := rfl
@[simp] theorem State.dropStrip_latch (s : State) : (s.dropStrip).latch = s.latch := rfl
@[simp] theorem State.dropStrip_sliceActive (s : State) : (s.dropStrip).sliceActive = s.sliceActive := rfl
@[simp] theorem State.dropStrip_stripActive (s : State) : (s.dropStrip).stripActive = false := rfl
@[simp] theorem State.dropStrip_outValid (s : State) : (s.dropStrip).outValid = s.outValid := rfl
@[simp] theorem State.dropStrip_tablesLoaded (s : State) : (s.dropStrip).tablesLoaded = s.tablesLoaded := rfl
@[simp] theorem State.dropStrip_lzwOld (s : State) : (s.dropStrip).lzwOld = false := rfl
@[simp] theorem State.dropStrip_outLen (s : State) : (s.dropStrip).outLen = s.outLen := rfl
@[simp] theorem State.dropStrip_pos (s : State) : (s.dropStrip).pos = 0 := rfl
@[simp] theorem State.dropStrip_inMem (s : State) : (s.dropStrip).inMem = s.inMem := rfl
@[simp] theorem State.dropStrip_outMem (s : State) : (s.dropStrip).outMem = s.outMem := rfl
@[simp] theorem State.dropStrip_strip (s : State) : (s.dropStrip).strip = StripState.reset := rfl
@[simp] theorem State.dropStrip_tables (s : State) : (s.dropStrip).tables = s.tables := rfl
@[simp] theorem State.dropStrip_hostQueue (s : State) : (s.dropStrip).hostQueue = s.hostQueue := rfl
@[simp] theorem State.dropStrip_readBack (s : State) : (s.dropStrip).readBack = s.readBack := rfl
@[simp] theorem State.dropStrip_focus (s : State) : (s.dropStrip).focus = s.focus := rfl
@[simp] theorem State.dropStrip_epoch (s : State) : (s.dropStrip).epoch = s.epoch := rfl
@[simp] theorem State.dropStrip_draws (s : State) : (s.dropStrip).draws = s.draws := rfl

@[simp] theorem State.beginSlice_regs (s : State) : (s.beginSlice).regs = s.regs := rfl
@[simp] theorem State.beginSlice_latch (s : State) : (s.beginSlice).latch = none := rfl
@[simp] theorem State.beginSlice_sliceActive (s : State) : (s.beginSlice).sliceActive = true := rfl
@[simp] theorem State.beginSlice_stripActive (s : State) : (s.beginSlice).stripActive = false := rfl
@[simp] theorem State.beginSlice_outValid (s : State) : (s.beginSlice).outValid = false := rfl
@[simp] theorem State.beginSlice_tablesLoaded (s : State) : (s.beginSlice).tablesLoaded = false := rfl
@[simp] theorem State.beginSlice_lzwOld (s : State) : (s.beginSlice).lzwOld = false := rfl
@[simp] theorem State.beginSlice_outLen (s : State) : (s.beginSlice).outLen = 0 := rfl
@[simp] theorem State.beginSlice_pos (s : State) : (s.beginSlice).pos = 0 := rfl
@[simp] theorem State.beginSlice_inMem (s : State) : (s.beginSlice).inMem = s.inMem := rfl
@[simp] theorem State.beginSlice_outMem (s : State) : (s.beginSlice).outMem = s.outMem := rfl
@[simp] theorem State.beginSlice_strip (s : State) : (s.beginSlice).strip = StripState.reset := rfl
@[simp] theorem State.beginSlice_tables (s : State) : (s.beginSlice).tables = JpegTables.reset := rfl
@[simp] theorem State.beginSlice_hostQueue (s : State) : (s.beginSlice).hostQueue = s.hostQueue := rfl
@[simp] theorem State.beginSlice_readBack (s : State) : (s.beginSlice).readBack = s.readBack := rfl
@[simp] theorem State.beginSlice_focus (s : State) : (s.beginSlice).focus = s.focus := rfl
@[simp] theorem State.beginSlice_epoch (s : State) : (s.beginSlice).epoch = s.epoch := rfl
@[simp] theorem State.beginSlice_draws (s : State) : (s.beginSlice).draws = s.draws := rfl

@[simp] theorem State.resetBlock_regs (s : State) : (s.resetBlock).regs = State.reset.regs := rfl
@[simp] theorem State.resetBlock_latch (s : State) : (s.resetBlock).latch = State.reset.latch := rfl
@[simp] theorem State.resetBlock_sliceActive (s : State) : (s.resetBlock).sliceActive = State.reset.sliceActive := rfl
@[simp] theorem State.resetBlock_stripActive (s : State) : (s.resetBlock).stripActive = State.reset.stripActive := rfl
@[simp] theorem State.resetBlock_outValid (s : State) : (s.resetBlock).outValid = State.reset.outValid := rfl
@[simp] theorem State.resetBlock_tablesLoaded (s : State) : (s.resetBlock).tablesLoaded = State.reset.tablesLoaded := rfl
@[simp] theorem State.resetBlock_lzwOld (s : State) : (s.resetBlock).lzwOld = State.reset.lzwOld := rfl
@[simp] theorem State.resetBlock_outLen (s : State) : (s.resetBlock).outLen = State.reset.outLen := rfl
@[simp] theorem State.resetBlock_pos (s : State) : (s.resetBlock).pos = State.reset.pos := rfl
@[simp] theorem State.resetBlock_inMem (s : State) : (s.resetBlock).inMem = State.reset.inMem := rfl
@[simp] theorem State.resetBlock_outMem (s : State) : (s.resetBlock).outMem = State.reset.outMem := rfl
@[simp] theorem State.resetBlock_strip (s : State) : (s.resetBlock).strip = State.reset.strip := rfl
@[simp] theorem State.resetBlock_tables (s : State) : (s.resetBlock).tables = State.reset.tables := rfl
@[simp] theorem State.resetBlock_hostQueue (s : State) : (s.resetBlock).hostQueue = s.hostQueue := rfl
@[simp] theorem State.resetBlock_readBack (s : State) : (s.resetBlock).readBack = s.readBack := rfl
@[simp] theorem State.resetBlock_focus (s : State) : (s.resetBlock).focus = s.focus := rfl
@[simp] theorem State.resetBlock_epoch (s : State) : (s.resetBlock).epoch = s.epoch + 1 := rfl
@[simp] theorem State.resetBlock_draws (s : State) : (s.resetBlock).draws = s.draws := rfl

/-! ### Host accesses -/

@[simp] theorem State.writeReg_latch (s : State) (off : Nat) (v : Word) : (s.writeReg off v).latch = s.latch := by
  unfold State.writeReg; split <;> rfl
@[simp] theorem State.writeReg_sliceActive (s : State) (off : Nat) (v : Word) : (s.writeReg off v).sliceActive = s.sliceActive := by
  unfold State.writeReg; split <;> rfl
@[simp] theorem State.writeReg_stripActive (s : State) (off : Nat) (v : Word) : (s.writeReg off v).stripActive = s.stripActive := by
  unfold State.writeReg; split <;> rfl
@[simp] theorem State.writeReg_outValid (s : State) (off : Nat) (v : Word) : (s.writeReg off v).outValid = s.outValid := by
  unfold State.writeReg; split <;> rfl
@[simp] theorem State.writeReg_tablesLoaded (s : State) (off : Nat) (v : Word) : (s.writeReg off v).tablesLoaded = s.tablesLoaded := by
  unfold State.writeReg; split <;> rfl
@[simp] theorem State.writeReg_lzwOld (s : State) (off : Nat) (v : Word) : (s.writeReg off v).lzwOld = s.lzwOld := by
  unfold State.writeReg; split <;> rfl
@[simp] theorem State.writeReg_outLen (s : State) (off : Nat) (v : Word) : (s.writeReg off v).outLen = s.outLen := by
  unfold State.writeReg; split <;> rfl
@[simp] theorem State.writeReg_pos (s : State) (off : Nat) (v : Word) : (s.writeReg off v).pos = s.pos := by
  unfold State.writeReg; split <;> rfl
@[simp] theorem State.writeReg_inMem (s : State) (off : Nat) (v : Word) : (s.writeReg off v).inMem = s.inMem := by
  unfold State.writeReg; split <;> rfl
@[simp] theorem State.writeReg_outMem (s : State) (off : Nat) (v : Word) : (s.writeReg off v).outMem = s.outMem := by
  unfold State.writeReg; split <;> rfl
@[simp] theorem State.writeReg_strip (s : State) (off : Nat) (v : Word) : (s.writeReg off v).strip = s.strip := by
  unfold State.writeReg; split <;> rfl
@[simp] theorem State.writeReg_tables (s : State) (off : Nat) (v : Word) : (s.writeReg off v).tables = s.tables := by
  unfold State.writeReg; split <;> rfl
@[simp] theorem State.writeReg_hostQueue (s : State) (off : Nat) (v : Word) : (s.writeReg off v).hostQueue = s.hostQueue := by
  unfold State.writeReg; split <;> rfl
@[simp] theorem State.writeReg_readBack (s : State) (off : Nat) (v : Word) : (s.writeReg off v).readBack = s.readBack := by
  unfold State.writeReg; split <;> rfl
@[simp] theorem State.writeReg_focus (s : State) (off : Nat) (v : Word) : (s.writeReg off v).focus = s.focus := by
  unfold State.writeReg; split <;> rfl
@[simp] theorem State.writeReg_epoch (s : State) (off : Nat) (v : Word) : (s.writeReg off v).epoch = s.epoch := by
  unfold State.writeReg; split <;> rfl
@[simp] theorem State.writeReg_draws (s : State) (off : Nat) (v : Word) : (s.writeReg off v).draws = s.draws := by
  unfold State.writeReg; split <;> rfl

@[simp] theorem State.access_latch (s : State) (a : HostAccess) : (s.access a).latch = s.latch := by
  unfold State.access; split <;> first | rfl | simp | (split <;> rfl)
@[simp] theorem State.access_sliceActive (s : State) (a : HostAccess) : (s.access a).sliceActive = s.sliceActive := by
  unfold State.access; split <;> first | rfl | simp | (split <;> rfl)
@[simp] theorem State.access_stripActive (s : State) (a : HostAccess) : (s.access a).stripActive = s.stripActive := by
  unfold State.access; split <;> first | rfl | simp | (split <;> rfl)
@[simp] theorem State.access_outValid (s : State) (a : HostAccess) : (s.access a).outValid = s.outValid := by
  unfold State.access; split <;> first | rfl | simp | (split <;> rfl)
@[simp] theorem State.access_tablesLoaded (s : State) (a : HostAccess) : (s.access a).tablesLoaded = s.tablesLoaded := by
  unfold State.access; split <;> first | rfl | simp | (split <;> rfl)
@[simp] theorem State.access_lzwOld (s : State) (a : HostAccess) : (s.access a).lzwOld = s.lzwOld := by
  unfold State.access; split <;> first | rfl | simp | (split <;> rfl)
@[simp] theorem State.access_outLen (s : State) (a : HostAccess) : (s.access a).outLen = s.outLen := by
  unfold State.access; split <;> first | rfl | simp | (split <;> rfl)
@[simp] theorem State.access_pos (s : State) (a : HostAccess) : (s.access a).pos = s.pos := by
  unfold State.access; split <;> first | rfl | simp | (split <;> rfl)
@[simp] theorem State.access_outMem (s : State) (a : HostAccess) : (s.access a).outMem = s.outMem := by
  unfold State.access; split <;> first | rfl | simp | (split <;> rfl)
@[simp] theorem State.access_strip (s : State) (a : HostAccess) : (s.access a).strip = s.strip := by
  unfold State.access; split <;> first | rfl | simp | (split <;> rfl)
@[simp] theorem State.access_tables (s : State) (a : HostAccess) : (s.access a).tables = s.tables := by
  unfold State.access; split <;> first | rfl | simp | (split <;> rfl)
@[simp] theorem State.access_hostQueue (s : State) (a : HostAccess) : (s.access a).hostQueue = s.hostQueue := by
  unfold State.access; split <;> first | rfl | simp | (split <;> rfl)
@[simp] theorem State.access_focus (s : State) (a : HostAccess) : (s.access a).focus = s.focus := by
  unfold State.access; split <;> first | rfl | simp | (split <;> rfl)
@[simp] theorem State.access_epoch (s : State) (a : HostAccess) : (s.access a).epoch = s.epoch := by
  unfold State.access; split <;> first | rfl | simp | (split <;> rfl)
@[simp] theorem State.access_draws (s : State) (a : HostAccess) : (s.access a).draws = s.draws := by
  unfold State.access; split <;> first | rfl | simp | (split <;> rfl)

/-! ### The fetch set-up -/

@[simp] theorem State.withCommand_regs (s : State) (w : Word) : (s.withCommand w).regs = s.regs := rfl
@[simp] theorem State.withCommand_latch (s : State) (w : Word) : (s.withCommand w).latch = s.latch := rfl
@[simp] theorem State.withCommand_sliceActive (s : State) (w : Word) : (s.withCommand w).sliceActive = s.sliceActive := rfl
@[simp] theorem State.withCommand_stripActive (s : State) (w : Word) : (s.withCommand w).stripActive = s.stripActive := rfl
@[simp] theorem State.withCommand_outValid (s : State) (w : Word) : (s.withCommand w).outValid = s.outValid := rfl
@[simp] theorem State.withCommand_tablesLoaded (s : State) (w : Word) : (s.withCommand w).tablesLoaded = s.tablesLoaded := rfl
@[simp] theorem State.withCommand_lzwOld (s : State) (w : Word) : (s.withCommand w).lzwOld = s.lzwOld := rfl
@[simp] theorem State.withCommand_outLen (s : State) (w : Word) : (s.withCommand w).outLen = s.outLen := rfl
@[simp] theorem State.withCommand_pos (s : State) (w : Word) : (s.withCommand w).pos = s.pos := rfl
@[simp] theorem State.withCommand_inMem (s : State) (w : Word) : (s.withCommand w).inMem = s.inMem := rfl
@[simp] theorem State.withCommand_outMem (s : State) (w : Word) : (s.withCommand w).outMem = s.outMem := rfl
@[simp] theorem State.withCommand_strip (s : State) (w : Word) : (s.withCommand w).strip = s.strip := rfl
@[simp] theorem State.withCommand_tables (s : State) (w : Word) : (s.withCommand w).tables = s.tables := rfl
@[simp] theorem State.withCommand_hostQueue (s : State) (w : Word) : (s.withCommand w).hostQueue = HostAccess.command w :: s.hostQueue := rfl
@[simp] theorem State.withCommand_readBack (s : State) (w : Word) : (s.withCommand w).readBack = s.readBack := rfl
@[simp] theorem State.withCommand_focus (s : State) (w : Word) : (s.withCommand w).focus = Focus.host := rfl
@[simp] theorem State.withCommand_epoch (s : State) (w : Word) : (s.withCommand w).epoch = s.epoch := rfl
@[simp] theorem State.withCommand_draws (s : State) (w : Word) : (s.withCommand w).draws = s.draws := rfl

/-! ### Strips -/

@[simp] theorem StripState.byteAlign_cfg (s : StripState) : (s.byteAlign).cfg = s.cfg := rfl
@[simp] theorem StripState.byteAlign_lin (s : StripState) : (s.byteAlign).lin = s.lin := rfl
@[simp] theorem StripState.byteAlign_bc (s : StripState) : (s.byteAlign).bc = (s.bc + 7) / 8 * 8 := rfl
@[simp] theorem StripState.byteAlign_emitted (s : StripState) : (s.byteAlign).emitted = s.emitted := rfl
@[simp] theorem StripState.byteAlign_term (s : StripState) : (s.byteAlign).term = s.term := rfl
@[simp] theorem StripState.byteAlign_codec (s : StripState) : (s.byteAlign).codec = s.codec := rfl

@[simp] theorem StripState.skip_cfg (s : StripState) (n : Nat) : (s.skip n).cfg = s.cfg := rfl
@[simp] theorem StripState.skip_lin (s : StripState) (n : Nat) : (s.skip n).lin = s.lin := rfl
@[simp] theorem StripState.skip_bc (s : StripState) (n : Nat) : (s.skip n).bc = s.bc + n := rfl
@[simp] theorem StripState.skip_emitted (s : StripState) (n : Nat) : (s.skip n).emitted = s.emitted := rfl
@[simp] theorem StripState.skip_term (s : StripState) (n : Nat) : (s.skip n).term = s.term := rfl
@[simp] theorem StripState.skip_codec (s : StripState) (n : Nat) : (s.skip n).codec = s.codec := rfl

@[simp] theorem StripState.emit_cfg (s : StripState) (b : List Byte) : (s.emit b).cfg = s.cfg := rfl
@[simp] theorem StripState.emit_lin (s : StripState) (b : List Byte) : (s.emit b).lin = s.lin := rfl
@[simp] theorem StripState.emit_bc (s : StripState) (b : List Byte) : (s.emit b).bc = s.bc := rfl
@[simp] theorem StripState.emit_emitted (s : StripState) (b : List Byte) : (s.emit b).emitted = s.emitted ++ b := rfl
@[simp] theorem StripState.emit_term (s : StripState) (b : List Byte) : (s.emit b).term = s.term := rfl
@[simp] theorem StripState.emit_codec (s : StripState) (b : List Byte) : (s.emit b).codec = s.codec := rfl

@[simp] theorem StripState.stop_cfg (s : StripState) (t : Terminator) : (s.stop t).cfg = s.cfg := rfl
@[simp] theorem StripState.stop_lin (s : StripState) (t : Terminator) : (s.stop t).lin = s.lin := rfl
@[simp] theorem StripState.stop_bc (s : StripState) (t : Terminator) : (s.stop t).bc = s.bc := rfl
@[simp] theorem StripState.stop_emitted (s : StripState) (t : Terminator) : (s.stop t).emitted = s.emitted := rfl
@[simp] theorem StripState.stop_term (s : StripState) (t : Terminator) : (s.stop t).term = some t := rfl
@[simp] theorem StripState.stop_codec (s : StripState) (t : Terminator) : (s.stop t).codec = s.codec := rfl

@[simp] theorem StripState.fail_cfg (s : StripState) (k : ErrKind) : (s.fail k).cfg = s.cfg := rfl
@[simp] theorem StripState.fail_lin (s : StripState) (k : ErrKind) : (s.fail k).lin = s.lin := rfl
@[simp] theorem StripState.fail_bc (s : StripState) (k : ErrKind) : (s.fail k).bc = s.bc := rfl
@[simp] theorem StripState.fail_emitted (s : StripState) (k : ErrKind) : (s.fail k).emitted = s.emitted := rfl
@[simp] theorem StripState.fail_term (s : StripState) (k : ErrKind) : (s.fail k).term = some (.error k) := rfl
@[simp] theorem StripState.fail_codec (s : StripState) (k : ErrKind) : (s.fail k).codec = s.codec := rfl

end Sys2Proof.Machine
end

