-- ==== Sys2Proof/Laws/Ops.lean ====
section
/-! SUPPORT. For each shared operation, once, everything it can do. -/

namespace Sys2Proof.Machine

open Sys2Proof Host

/-! ### Registers -/

/-- A register write is seen through its mask (R22). -/
theorem Regs.get_put_same (r : Regs) (n : RegName) (v : Word) : (r.put n v).get n = v := by
  cases n <;> rfl

/-- A register write leaves the others alone. -/
theorem Regs.get_put_ne (r : Regs) {n m : RegName} (v : Word) (h : m ≠ n) :
    (r.put n v).get m = r.get m := by
  cases n <;> cases m <;> first | rfl | exact absurd rfl h

/-- The offsets name the registers. -/
theorem RegName.ofOffset?_offset (n : RegName) : RegName.ofOffset? n.offset = some n := by
  cases n <;> rfl

/-! ### The latch -/

/-- The error latch entry, with ERR = 0 (R424). -/
theorem State.raise_of_none {s : State} (h : s.latch = none) (k : ErrKind) (r t : Word) :
    s.raise k r t = { s with latch := some { kind := k, row := r, strip := t }, stripActive := false, outValid := false } := by
  unfold State.raise
  rw [h]

/-- No error is raised while one is latched (R425, R427). -/
theorem State.raise_of_some {s : State} {e : ErrorLatch} (h : s.latch = some e) (k : ErrKind)
    (r t : Word) : s.raise k r t = s := by
  unfold State.raise
  rw [h]

/-- A command that is not admitted changes nothing (R425). -/
theorem State.unlessLatched_of_err {s : State} (h : s.err = true) (f : State → State) : s.unlessLatched f = s := by
  simp [State.unlessLatched, h]

/-- A command that is admitted has its effect. -/
theorem State.unlessLatched_of_not_err {s : State} (h : s.err = false) (f : State → State) : s.unlessLatched f = f s := by
  simp [State.unlessLatched, h]

/-- No check fails exactly when every check holds. -/
theorem firstFailure_eq_none {l : List (Bool × ErrKind)} :
    firstFailure l = none ↔ ∀ p ∈ l, p.1 = true := by
  induction l with
  | nil => simp [firstFailure]
  | cons p l ih =>
    obtain ⟨ok, k⟩ := p
    cases ok <;> simp [firstFailure, ih]

/-! ### Host accesses -/

/-- What a host access that takes a step is (R62 to R65, R431). -/
theorem hostAccess_next {P : Params} {a : HostAccess} {s t : State} (h : hostAccess P a s = .next t) :
    a.admitted = true ∧ a.inSpace P = true ∧ t = s.access a := by
  unfold hostAccess at h
  split at h
  · cases h
  · split at h
    · cases h
    · rename_i h1 h2
      cases h
      exact ⟨by simpa using h1, by simpa using h2, rfl⟩

/-! ### Stream symbols -/

/-- What a symbol of the LZW unit does when it takes a step. -/
theorem onLzw_next {s t : State} {f : LzwState → StripState → StripState} (h : onLzw s f = .next t) :
    ∃ z, s.strip.term = none ∧ s.strip.codec = .lzw z ∧ t = { s with strip := f z s.strip } := by
  unfold onLzw at h
  split at h
  · rename_i z h1 h2
    cases h
    exact ⟨z, h1, h2, rfl⟩
  · cases h

/-- What a symbol of the PackBits unit does when it takes a step. -/
theorem onPackBits_next {s t : State} {f : StripState → StripState} (h : onPackBits s f = .next t) :
    s.strip.term = none ∧ s.strip.codec = .packBits ∧ t = { s with strip := f s.strip } := by
  unfold onPackBits at h
  split at h
  · rename_i h1 h2
    cases h
    exact ⟨h1, h2, rfl⟩
  · cases h

/-- What a symbol of the fax units does when it takes a step. -/
theorem onFax_next {s t : State} {here : FaxState → Bool} {f : FaxState → StripState → StripState}
    (h : onFax s here f = .next t) :
    ∃ x, s.strip.term = none ∧ s.strip.codec = .fax x ∧ here x = true ∧
      t = { s with strip := f x s.strip } := by
  unfold onFax at h
  split at h
  · rename_i x h1 h2
    split at h
    · rename_i h3
      cases h
      exact ⟨x, h1, h2, h3, rfl⟩
    · cases h
  · cases h

/-- What a symbol of the LogLuv unit does when it takes a step. -/
theorem onLogLuv_next {s t : State} {f : LogLuvState → StripState → StripState}
    (h : onLogLuv s f = .next t) :
    ∃ v, s.strip.term = none ∧ s.strip.codec = .logLuv v ∧ t = { s with strip := f v s.strip } := by
  unfold onLogLuv at h
  split at h
  · rename_i v h1 h2
    cases h
    exact ⟨v, h1, h2, rfl⟩
  · cases h

/-- What a symbol of the JPEG unit does when it takes a step. -/
theorem onJpeg_next {s t : State} {here : JpegState → Bool} {f : JpegState → StripState → StripState}
    (h : onJpeg s here f = .next t) :
    ∃ j, s.strip.term = none ∧ s.strip.codec = .jpeg j ∧ here j = true ∧
      t = { s with strip := f j s.strip } := by
  unfold onJpeg at h
  split at h
  · rename_i j h1 h2
    split at h
    · rename_i h3
      cases h
      exact ⟨j, h1, h2, h3, rfl⟩
    · cases h
  · cases h

/-- What the deflate unit's symbol does when it takes a step. -/
theorem onDeflate_next {s t : State} {f : StripState → StripState} (h : onDeflate s f = .next t) :
    s.strip.term = none ∧ s.strip.codec = .deflate ∧ t = { s with strip := f s.strip } := by
  unfold onDeflate at h
  split at h
  · rename_i h1 h2
    cases h
    exact ⟨h1, h2, rfl⟩
  · cases h

/-- A symbol means the same to DECODE as to a step of the unit. -/
theorem exec_eq_execSymbol {i : Instr} (h : encodeCmd i = none) (s : State) : exec i s = execSymbol i s := by
  cases i <;> first | rfl | cases h

/-- A stream symbol changes nothing of the state but the strip. -/
theorem execSymbol_strip {i : Instr} {s t : State} (h : execSymbol i s = .next t) :
    t = { s with strip := t.strip } := by
  cases i <;>
    first
    | cases h
    | (obtain ⟨_, _, _, rfl⟩ := onLzw_next h; rfl)
    | (obtain ⟨_, _, rfl⟩ := onPackBits_next h; rfl)
    | (obtain ⟨_, _, _, _, rfl⟩ := onFax_next h; rfl)
    | (obtain ⟨_, _, _, rfl⟩ := onLogLuv_next h; rfl)
    | (obtain ⟨_, _, _, _, rfl⟩ := onJpeg_next h; rfl)
    | (obtain ⟨_, _, rfl⟩ := onDeflate_next h; rfl)

/-- A step of the unit changes nothing of the state but the strip. -/
theorem advance_strip (s : State) : advance s = { s with strip := (advance s).strip } := by
  unfold advance
  split
  · rfl
  · split
    · rename_i t h
      unfold unitStep at h
      split at h
      · cases h; rfl
      · have e := execSymbol_strip h
        rw [e]
    · rfl

end Sys2Proof.Machine
end

