-- ==== Sys2Proof/Laws/PerInstr.lean ====
section
/-! SUPPORT. The family `Encodes` of LAWS.json: every well-formed instruction is a symbol of some format, in some
context, with an encoding in it (spec/30_encoding.md R80 to R90). One lemma for each instruction. -/

namespace Sys2Proof.Laws.Encodes

open Sys2Proof Sys2Proof.Machine

/-- A well-formed instruction fits a format. -/
def Statement (i : Instr) : Prop :=
  i.WellFormed = true → ∃ f : Fmt, fits f i = true

/-- A Huffman table whose one code word, `0`, stands for `v`. -/
def tableFor (v : Byte) : HuffTable where
  bits := 1 :: List.replicate 15 0
  huffval := [v]
  mincode := List.replicate 16 0
  maxcode := 0 :: List.replicate 15 (-1)
  valptr := List.replicate 16 0

/-- It is one that the builder makes. -/
theorem tableFor_ok (v : Byte) : huffTableOk (tableFor v) = true := by
  simp only [huffTableOk, Bool.and_eq_true, decide_eq_true_eq]
  exact ⟨⟨rfl, rfl⟩, rfl⟩

/-- Its code word. -/
theorem tableFor_code (v : Byte) : huffCode (tableFor v) v = some [false] := by
  have h : huffGen (tableFor v).bits 1 0 = some [(1, 0)] := rfl
  have h2 : (tableFor v).huffval.idxOf v = 0 := by simp [tableFor]
  simp [huffCode, h, h2, cw]

theorem nop : Statement (.nop) := fun _ => ⟨.cmd, by decide⟩
theorem reset : Statement (.reset) := fun _ => ⟨.cmd, by decide⟩
theorem sliceBegin : Statement (.sliceBegin) := fun _ => ⟨.cmd, by decide⟩
theorem stripBegin : Statement (.stripBegin) := fun _ => ⟨.cmd, by decide⟩
theorem decode : Statement (.decode) := fun _ => ⟨.cmd, by decide⟩
theorem loadJpegTables : Statement (.loadJpegTables) := fun _ => ⟨.cmd, by decide⟩
theorem upsampleYcbcr : Statement (.upsampleYcbcr) := fun _ => ⟨.cmd, by decide⟩
theorem stripEnd : Statement (.stripEnd) := fun _ => ⟨.cmd, by decide⟩
theorem reservedOpc (low : BitVec 3) : Statement (.reservedOpc low) := fun _ => ⟨.cmd, by revert low; decide⟩
theorem reservedBits (r : BitVec 28) (o : BitVec 4) : Statement (.reservedBits r o) := fun h => ⟨.cmd, by simpa [fits, encode, encodeCmd] using h⟩
theorem lzwLiteral (c : BitVec 8) : Statement (.lzwLiteral c) := fun _ => ⟨.lzw false 9 258 false, by
  have := c.isLt
  simp [fits, Instr.WellFormed, encode, lzwCode, lzwSymbol]; omega⟩
theorem lzwClear : Statement (.lzwClear) := fun _ => ⟨.lzw false 9 258 false, by decide⟩
theorem lzwEoi : Statement (.lzwEoi) := fun _ => ⟨.lzw false 9 258 false, by decide⟩
theorem lzwDict (c : BitVec 12) : Statement (.lzwDict c) := fun h => ⟨.lzw false 12 4096 true, by
  have := c.isLt
  simp [Instr.WellFormed] at h
  have h1 : ¬ c.toNat < 256 := by omega
  have h2 : c.toNat ≠ 256 := by omega
  have h3 : c.toNat ≠ 257 := by omega
  have h4 : c.toNat < 4096 := by omega
  simp [fits, Instr.WellFormed, encode, lzwCode, lzwSymbol, h, h1, h2, h3, h4]⟩
theorem lzwKwkwk (c : BitVec 12) : Statement (.lzwKwkwk c) := fun h => ⟨.lzw false 12 c.toNat true, by
  have := c.isLt
  simp [Instr.WellFormed] at h
  have h1 : ¬ c.toNat < 256 := by omega
  have h2 : c.toNat ≠ 256 := by omega
  have h3 : c.toNat ≠ 257 := by omega
  have h4 : c.toNat < 4096 := by omega
  simp [fits, Instr.WellFormed, encode, lzwCode, lzwSymbol, h, h1, h2, h3, h4]⟩
theorem lzwBad (c : BitVec 12) : Statement (.lzwBad c) := fun h => ⟨.lzw false 12 258 false, by
  have := c.isLt
  simp [Instr.WellFormed] at h
  have h1 : ¬ c.toNat < 256 := by omega
  have h2 : c.toNat ≠ 256 := by omega
  have h3 : c.toNat ≠ 257 := by omega
  have h4 : c.toNat < 4096 := by omega
  simp [fits, Instr.WellFormed, encode, lzwCode, lzwSymbol, h, h1, h2, h3, h4]⟩
theorem pbLiteral (n : BitVec 7) : Statement (.pbLiteral n) := fun _ => ⟨.packBits, by revert n; decide⟩
theorem pbNop : Statement (.pbNop) := fun _ => ⟨.packBits, by decide⟩
theorem pbRepeat (n : BitVec 7) : Statement (.pbRepeat n) := fun h => ⟨.packBits, by revert n; decide⟩
theorem faxEol : Statement (.faxEol) := fun _ => ⟨.eol, by decide⟩
theorem readP : Statement (.readP) := fun _ => ⟨.readMode, by decide⟩
theorem readH : Statement (.readH) := fun _ => ⟨.readMode, by decide⟩
theorem readV0 : Statement (.readV0) := fun _ => ⟨.readMode, by decide⟩
theorem readVr1 : Statement (.readVr1) := fun _ => ⟨.readMode, by decide⟩
theorem readVr2 : Statement (.readVr2) := fun _ => ⟨.readMode, by decide⟩
theorem readVr3 : Statement (.readVr3) := fun _ => ⟨.readMode, by decide⟩
theorem readVl1 : Statement (.readVl1) := fun _ => ⟨.readMode, by decide⟩
theorem readVl2 : Statement (.readVl2) := fun _ => ⟨.readMode, by decide⟩
theorem readVl3 : Statement (.readVl3) := fun _ => ⟨.readMode, by decide⟩
theorem readExt (e : BitVec 3) : Statement (.readExt e) := fun _ => ⟨.readMode, by revert e; decide⟩
theorem g3Tag (t : BitVec 1) : Statement (.g3Tag t) := fun _ => ⟨.tag, by revert t; decide⟩
theorem jpegSoi : Statement (.jpegSoi) := fun _ => ⟨.marker, by decide⟩
theorem jpegEoi : Statement (.jpegEoi) := fun _ => ⟨.marker, by decide⟩
theorem jpegDqt : Statement (.jpegDqt) := fun _ => ⟨.marker, by decide⟩
theorem jpegDht : Statement (.jpegDht) := fun _ => ⟨.marker, by decide⟩
theorem jpegDri : Statement (.jpegDri) := fun _ => ⟨.marker, by decide⟩
theorem jpegSof0 : Statement (.jpegSof0) := fun _ => ⟨.marker, by decide⟩
theorem jpegSof1 : Statement (.jpegSof1) := fun _ => ⟨.marker, by decide⟩
theorem jpegSos : Statement (.jpegSos) := fun _ => ⟨.marker, by decide⟩
theorem jpegRstm (m : BitVec 3) : Statement (.jpegRstm m) := fun _ => ⟨.marker, by revert m; decide⟩
theorem jpegAppn (n : BitVec 4) : Statement (.jpegAppn n) := fun _ => ⟨.marker, by revert n; decide⟩
theorem jpegCom : Statement (.jpegCom) := fun _ => ⟨.marker, by decide⟩
theorem jpegSof2 : Statement (.jpegSof2) := fun _ => ⟨.marker, by decide⟩
theorem jpegSof3 : Statement (.jpegSof3) := fun _ => ⟨.marker, by decide⟩
theorem jpegSof5 : Statement (.jpegSof5) := fun _ => ⟨.marker, by decide⟩
theorem jpegSof6 : Statement (.jpegSof6) := fun _ => ⟨.marker, by decide⟩
theorem jpegSof7 : Statement (.jpegSof7) := fun _ => ⟨.marker, by decide⟩
theorem jpegJpg : Statement (.jpegJpg) := fun _ => ⟨.marker, by decide⟩
theorem jpegSof9 : Statement (.jpegSof9) := fun _ => ⟨.marker, by decide⟩
theorem jpegSof10 : Statement (.jpegSof10) := fun _ => ⟨.marker, by decide⟩
theorem jpegSof11 : Statement (.jpegSof11) := fun _ => ⟨.marker, by decide⟩
theorem jpegDac : Statement (.jpegDac) := fun _ => ⟨.marker, by decide⟩
theorem jpegSof13 : Statement (.jpegSof13) := fun _ => ⟨.marker, by decide⟩
theorem jpegSof14 : Statement (.jpegSof14) := fun _ => ⟨.marker, by decide⟩
theorem jpegSof15 : Statement (.jpegSof15) := fun _ => ⟨.marker, by decide⟩
theorem jpegDhp : Statement (.jpegDhp) := fun _ => ⟨.marker, by decide⟩
theorem jpegExp : Statement (.jpegExp) := fun _ => ⟨.marker, by decide⟩
theorem jpegDnl : Statement (.jpegDnl) := fun _ => ⟨.marker, by decide⟩
theorem jpegTem : Statement (.jpegTem) := fun _ => ⟨.marker, by decide⟩
theorem jpegRes (c : BitVec 8) : Statement (.jpegRes c) := fun h => ⟨.marker, by revert c; decide⟩
theorem jpegStuff : Statement (.jpegStuff) := fun _ => ⟨.stuff, by decide⟩
theorem jpegDcSymbol (t : BitVec 8) (v : BitVec 16) : Statement (.jpegDcSymbol t v) := fun h => ⟨.dcSymbol (tableFor t), by
  simp [fits, encode, tableFor_code, tableFor_ok, h]
  simpa [Instr.WellFormed, dcMagBits] using h⟩
theorem jpegAcSymbol (rs : BitVec 8) (v : BitVec 16) : Statement (.jpegAcSymbol rs v) := fun h => ⟨.acSymbol (tableFor rs) 1, by
  have hr := rs.isLt
  simp [fits, encode, tableFor_code, tableFor_ok, h]
  have : 1 + rs.toNat / 16 ≤ 63 := by omega
  simpa [Instr.WellFormed, acMagBits, this] using h⟩
theorem logluvRun (n : BitVec 7) : Statement (.logluvRun n) := fun _ => ⟨.logLuv, by revert n; decide⟩
theorem logluvLiteral (n : BitVec 7) : Statement (.logluvLiteral n) := fun _ => ⟨.logLuv, by revert n; decide⟩
theorem zlibStream : Statement (.zlibStream) := fun _ => ⟨.zlib, by decide⟩
theorem mhWTerm0 : Statement (.mhWTerm0) := fun _ => ⟨.mhRun false, by decide⟩
theorem mhWTerm1 : Statement (.mhWTerm1) := fun _ => ⟨.mhRun false, by decide⟩
theorem mhWTerm2 : Statement (.mhWTerm2) := fun _ => ⟨.mhRun false, by decide⟩
theorem mhWTerm3 : Statement (.mhWTerm3) := fun _ => ⟨.mhRun false, by decide⟩
theorem mhWTerm4 : Statement (.mhWTerm4) := fun _ => ⟨.mhRun false, by decide⟩
theorem mhWTerm5 : Statement (.mhWTerm5) := fun _ => ⟨.mhRun false, by decide⟩
theorem mhWTerm6 : Statement (.mhWTerm6) := fun _ => ⟨.mhRun false, by decide⟩
theorem mhWTerm7 : Statement (.mhWTerm7) := fun _ => ⟨.mhRun false, by decide⟩
theorem mhWTerm8 : Statement (.mhWTerm8) := fun _ => ⟨.mhRun false, by decide⟩
theorem mhWTerm9 : Statement (.mhWTerm9) := fun _ => ⟨.mhRun false, by decide⟩
theorem mhWTerm10 : Statement (.mhWTerm10) := fun _ => ⟨.mhRun false, by decide⟩
theorem mhWTerm11 : Statement (.mhWTerm11) := fun _ => ⟨.mhRun false, by decide⟩
theorem mhWTerm12 : Statement (.mhWTerm12) := fun _ => ⟨.mhRun false, by decide⟩
theorem mhWTerm13 : Statement (.mhWTerm13) := fun _ => ⟨.mhRun false, by decide⟩
theorem mhWTerm14 : Statement (.mhWTerm14) := fun _ => ⟨.mhRun false, by decide⟩
theorem mhWTerm15 : Statement (.mhWTerm15) := fun _ => ⟨.mhRun false, by decide⟩
theorem mhWTerm16 : Statement (.mhWTerm16) := fun _ => ⟨.mhRun false, by decide⟩
theorem mhWTerm17 : Statement (.mhWTerm17) := fun _ => ⟨.mhRun false, by decide⟩
theorem mhWTerm18 : Statement (.mhWTerm18) := fun _ => ⟨.mhRun false, by decide⟩
theorem mhWTerm19 : Statement (.mhWTerm19) := fun _ => ⟨.mhRun false, by decide⟩
theorem mhWTerm20 : Statement (.mhWTerm20) := fun _ => ⟨.mhRun false, by decide⟩
theorem mhWTerm21 : Statement (.mhWTerm21) := fun _ => ⟨.mhRun false, by decide⟩
theorem mhWTerm22 : Statement (.mhWTerm22) := fun _ => ⟨.mhRun false, by decide⟩
theorem mhWTerm23 : Statement (.mhWTerm23) := fun _ => ⟨.mhRun false, by decide⟩
theorem mhWTerm24 : Statement (.mhWTerm24) := fun _ => ⟨.mhRun false, by decide⟩
theorem mhWTerm25 : Statement (.mhWTerm25) := fun _ => ⟨.mhRun false, by decide⟩
theorem mhWTerm26 : Statement (.mhWTerm26) := fun _ => ⟨.mhRun false, by decide⟩
theorem mhWTerm27 : Statement (.mhWTerm27) := fun _ => ⟨.mhRun false, by decide⟩
theorem mhWTerm28 : Statement (.mhWTerm28) := fun _ => ⟨.mhRun false, by decide⟩
theorem mhWTerm29 : Statement (.mhWTerm29) := fun _ => ⟨.mhRun false, by decide⟩
theorem mhWTerm30 : Statement (.mhWTerm30) := fun _ => ⟨.mhRun false, by decide⟩
theorem mhWTerm31 : Statement (.mhWTerm31) := fun _ => ⟨.mhRun false, by decide⟩
theorem mhWTerm32 : Statement (.mhWTerm32) := fun _ => ⟨.mhRun false, by decide⟩
theorem mhWTerm33 : Statement (.mhWTerm33) := fun _ => ⟨.mhRun false, by decide⟩
theorem mhWTerm34 : Statement (.mhWTerm34) := fun _ => ⟨.mhRun false, by decide⟩
theorem mhWTerm35 : Statement (.mhWTerm35) := fun _ => ⟨.mhRun false, by decide⟩
theorem mhWTerm36 : Statement (.mhWTerm36) := fun _ => ⟨.mhRun false, by decide⟩
theorem mhWTerm37 : Statement (.mhWTerm37) := fun _ => ⟨.mhRun false, by decide⟩
theorem mhWTerm38 : Statement (.mhWTerm38) := fun _ => ⟨.mhRun false, by decide⟩
theorem mhWTerm39 : Statement (.mhWTerm39) := fun _ => ⟨.mhRun false, by decide⟩
theorem mhWTerm40 : Statement (.mhWTerm40) := fun _ => ⟨.mhRun false, by decide⟩
theorem mhWTerm41 : Statement (.mhWTerm41) := fun _ => ⟨.mhRun false, by decide⟩
theorem mhWTerm42 : Statement (.mhWTerm42) := fun _ => ⟨.mhRun false, by decide⟩
theorem mhWTerm43 : Statement (.mhWTerm43) := fun _ => ⟨.mhRun false, by decide⟩
theorem mhWTerm44 : Statement (.mhWTerm44) := fun _ => ⟨.mhRun false, by decide⟩
theorem mhWTerm45 : Statement (.mhWTerm45) := fun _ => ⟨.mhRun false, by decide⟩
theorem mhWTerm46 : Statement (.mhWTerm46) := fun _ => ⟨.mhRun false, by decide⟩
theorem mhWTerm47 : Statement (.mhWTerm47) := fun _ => ⟨.mhRun false, by decide⟩
theorem mhWTerm48 : Statement (.mhWTerm48) := fun _ => ⟨.mhRun false, by decide⟩
theorem mhWTerm49 : Statement (.mhWTerm49) := fun _ => ⟨.mhRun false, by decide⟩
theorem mhWTerm50 : Statement (.mhWTerm50) := fun _ => ⟨.mhRun false, by decide⟩
theorem mhWTerm51 : Statement (.mhWTerm51) := fun _ => ⟨.mhRun false, by decide⟩
theorem mhWTerm52 : Statement (.mhWTerm52) := fun _ => ⟨.mhRun false, by decide⟩
theorem mhWTerm53 : Statement (.mhWTerm53) := fun _ => ⟨.mhRun false, by decide⟩
theorem mhWTerm54 : Statement (.mhWTerm54) := fun _ => ⟨.mhRun false, by decide⟩
theorem mhWTerm55 : Statement (.mhWTerm55) := fun _ => ⟨.mhRun false, by decide⟩
theorem mhWTerm56 : Statement (.mhWTerm56) := fun _ => ⟨.mhRun false, by decide⟩
theorem mhWTerm57 : Statement (.mhWTerm57) := fun _ => ⟨.mhRun false, by decide⟩
theorem mhWTerm58 : Statement (.mhWTerm58) := fun _ => ⟨.mhRun false, by decide⟩
theorem mhWTerm59 : Statement (.mhWTerm59) := fun _ => ⟨.mhRun false, by decide⟩
theorem mhWTerm60 : Statement (.mhWTerm60) := fun _ => ⟨.mhRun false, by decide⟩
theorem mhWTerm61 : Statement (.mhWTerm61) := fun _ => ⟨.mhRun false, by decide⟩
theorem mhWTerm62 : Statement (.mhWTerm62) := fun _ => ⟨.mhRun false, by decide⟩
theorem mhWTerm63 : Statement (.mhWTerm63) := fun _ => ⟨.mhRun false, by decide⟩
theorem mhWMakeup64 : Statement (.mhWMakeup64) := fun _ => ⟨.mhRun false, by decide⟩
theorem mhWMakeup128 : Statement (.mhWMakeup128) := fun _ => ⟨.mhRun false, by decide⟩
theorem mhWMakeup192 : Statement (.mhWMakeup192) := fun _ => ⟨.mhRun false, by decide⟩
theorem mhWMakeup256 : Statement (.mhWMakeup256) := fun _ => ⟨.mhRun false, by decide⟩
theorem mhWMakeup320 : Statement (.mhWMakeup320) := fun _ => ⟨.mhRun false, by decide⟩
theorem mhWMakeup384 : Statement (.mhWMakeup384) := fun _ => ⟨.mhRun false, by decide⟩
theorem mhWMakeup448 : Statement (.mhWMakeup448) := fun _ => ⟨.mhRun false, by decide⟩
theorem mhWMakeup512 : Statement (.mhWMakeup512) := fun _ => ⟨.mhRun false, by decide⟩
theorem mhWMakeup576 : Statement (.mhWMakeup576) := fun _ => ⟨.mhRun false, by decide⟩
theorem mhWMakeup640 : Statement (.mhWMakeup640) := fun _ => ⟨.mhRun false, by decide⟩
theorem mhWMakeup704 : Statement (.mhWMakeup704) := fun _ => ⟨.mhRun false, by decide⟩
theorem mhWMakeup768 : Statement (.mhWMakeup768) := fun _ => ⟨.mhRun false, by decide⟩
theorem mhWMakeup832 : Statement (.mhWMakeup832) := fun _ => ⟨.mhRun false, by decide⟩
theorem mhWMakeup896 : Statement (.mhWMakeup896) := fun _ => ⟨.mhRun false, by decide⟩
theorem mhWMakeup960 : Statement (.mhWMakeup960) := fun _ => ⟨.mhRun false, by decide⟩
theorem mhWMakeup1024 : Statement (.mhWMakeup1024) := fun _ => ⟨.mhRun false, by decide⟩
theorem mhWMakeup1088 : Statement (.mhWMakeup1088) := fun _ => ⟨.mhRun false, by decide⟩
theorem mhWMakeup1152 : Statement (.mhWMakeup1152) := fun _ => ⟨.mhRun false, by decide⟩
theorem mhWMakeup1216 : Statement (.mhWMakeup1216) := fun _ => ⟨.mhRun false, by decide⟩
theorem mhWMakeup1280 : Statement (.mhWMakeup1280) := fun _ => ⟨.mhRun false, by decide⟩
theorem mhWMakeup1344 : Statement (.mhWMakeup1344) := fun _ => ⟨.mhRun false, by decide⟩
theorem mhWMakeup1408 : Statement (.mhWMakeup1408) := fun _ => ⟨.mhRun false, by decide⟩
theorem mhWMakeup1472 : Statement (.mhWMakeup1472) := fun _ => ⟨.mhRun false, by decide⟩
theorem mhWMakeup1536 : Statement (.mhWMakeup1536) := fun _ => ⟨.mhRun false, by decide⟩
theorem mhWMakeup1600 : Statement (.mhWMakeup1600) := fun _ => ⟨.mhRun false, by decide⟩
theorem mhWMakeup1664 : Statement (.mhWMakeup1664) := fun _ => ⟨.mhRun false, by decide⟩
theorem mhWMakeup1728 : Statement (.mhWMakeup1728) := fun _ => ⟨.mhRun false, by decide⟩
theorem mhBTerm0 : Statement (.mhBTerm0) := fun _ => ⟨.mhRun true, by decide⟩
theorem mhBTerm1 : Statement (.mhBTerm1) := fun _ => ⟨.mhRun true, by decide⟩
theorem mhBTerm2 : Statement (.mhBTerm2) := fun _ => ⟨.mhRun true, by decide⟩
theorem mhBTerm3 : Statement (.mhBTerm3) := fun _ => ⟨.mhRun true, by decide⟩
theorem mhBTerm4 : Statement (.mhBTerm4) := fun _ => ⟨.mhRun true, by decide⟩
theorem mhBTerm5 : Statement (.mhBTerm5) := fun _ => ⟨.mhRun true, by decide⟩
theorem mhBTerm6 : Statement (.mhBTerm6) := fun _ => ⟨.mhRun true, by decide⟩
theorem mhBTerm7 : Statement (.mhBTerm7) := fun _ => ⟨.mhRun true, by decide⟩
theorem mhBTerm8 : Statement (.mhBTerm8) := fun _ => ⟨.mhRun true, by decide⟩
theorem mhBTerm9 : Statement (.mhBTerm9) := fun _ => ⟨.mhRun true, by decide⟩
theorem mhBTerm10 : Statement (.mhBTerm10) := fun _ => ⟨.mhRun true, by decide⟩
theorem mhBTerm11 : Statement (.mhBTerm11) := fun _ => ⟨.mhRun true, by decide⟩
theorem mhBTerm12 : Statement (.mhBTerm12) := fun _ => ⟨.mhRun true, by decide⟩
theorem mhBTerm13 : Statement (.mhBTerm13) := fun _ => ⟨.mhRun true, by decide⟩
theorem mhBTerm14 : Statement (.mhBTerm14) := fun _ => ⟨.mhRun true, by decide⟩
theorem mhBTerm15 : Statement (.mhBTerm15) := fun _ => ⟨.mhRun true, by decide⟩
theorem mhBTerm16 : Statement (.mhBTerm16) := fun _ => ⟨.mhRun true, by decide⟩
theorem mhBTerm17 : Statement (.mhBTerm17) := fun _ => ⟨.mhRun true, by decide⟩
theorem mhBTerm18 : Statement (.mhBTerm18) := fun _ => ⟨.mhRun true, by decide⟩
theorem mhBTerm19 : Statement (.mhBTerm19) := fun _ => ⟨.mhRun true, by decide⟩
theorem mhBTerm20 : Statement (.mhBTerm20) := fun _ => ⟨.mhRun true, by decide⟩
theorem mhBTerm21 : Statement (.mhBTerm21) := fun _ => ⟨.mhRun true, by decide⟩
theorem mhBTerm22 : Statement (.mhBTerm22) := fun _ => ⟨.mhRun true, by decide⟩
theorem mhBTerm23 : Statement (.mhBTerm23) := fun _ => ⟨.mhRun true, by decide⟩
theorem mhBTerm24 : Statement (.mhBTerm24) := fun _ => ⟨.mhRun true, by decide⟩
theorem mhBTerm25 : Statement (.mhBTerm25) := fun _ => ⟨.mhRun true, by decide⟩
theorem mhBTerm26 : Statement (.mhBTerm26) := fun _ => ⟨.mhRun true, by decide⟩
theorem mhBTerm27 : Statement (.mhBTerm27) := fun _ => ⟨.mhRun true, by decide⟩
theorem mhBTerm28 : Statement (.mhBTerm28) := fun _ => ⟨.mhRun true, by decide⟩
theorem mhBTerm29 : Statement (.mhBTerm29) := fun _ => ⟨.mhRun true, by decide⟩
theorem mhBTerm30 : Statement (.mhBTerm30) := fun _ => ⟨.mhRun true, by decide⟩
theorem mhBTerm31 : Statement (.mhBTerm31) := fun _ => ⟨.mhRun true, by decide⟩
theorem mhBTerm32 : Statement (.mhBTerm32) := fun _ => ⟨.mhRun true, by decide⟩
theorem mhBTerm33 : Statement (.mhBTerm33) := fun _ => ⟨.mhRun true, by decide⟩
theorem mhBTerm34 : Statement (.mhBTerm34) := fun _ => ⟨.mhRun true, by decide⟩
theorem mhBTerm35 : Statement (.mhBTerm35) := fun _ => ⟨.mhRun true, by decide⟩
theorem mhBTerm36 : Statement (.mhBTerm36) := fun _ => ⟨.mhRun true, by decide⟩
theorem mhBTerm37 : Statement (.mhBTerm37) := fun _ => ⟨.mhRun true, by decide⟩
theorem mhBTerm38 : Statement (.mhBTerm38) := fun _ => ⟨.mhRun true, by decide⟩
theorem mhBTerm39 : Statement (.mhBTerm39) := fun _ => ⟨.mhRun true, by decide⟩
theorem mhBTerm40 : Statement (.mhBTerm40) := fun _ => ⟨.mhRun true, by decide⟩
theorem mhBTerm41 : Statement (.mhBTerm41) := fun _ => ⟨.mhRun true, by decide⟩
theorem mhBTerm42 : Statement (.mhBTerm42) := fun _ => ⟨.mhRun true, by decide⟩
theorem mhBTerm43 : Statement (.mhBTerm43) := fun _ => ⟨.mhRun true, by decide⟩
theorem mhBTerm44 : Statement (.mhBTerm44) := fun _ => ⟨.mhRun true, by decide⟩
theorem mhBTerm45 : Statement (.mhBTerm45) := fun _ => ⟨.mhRun true, by decide⟩
theorem mhBTerm46 : Statement (.mhBTerm46) := fun _ => ⟨.mhRun true, by decide⟩
theorem mhBTerm47 : Statement (.mhBTerm47) := fun _ => ⟨.mhRun true, by decide⟩
theorem mhBTerm48 : Statement (.mhBTerm48) := fun _ => ⟨.mhRun true, by decide⟩
theorem mhBTerm49 : Statement (.mhBTerm49) := fun _ => ⟨.mhRun true, by decide⟩
theorem mhBTerm50 : Statement (.mhBTerm50) := fun _ => ⟨.mhRun true, by decide⟩
theorem mhBTerm51 : Statement (.mhBTerm51) := fun _ => ⟨.mhRun true, by decide⟩
theorem mhBTerm52 : Statement (.mhBTerm52) := fun _ => ⟨.mhRun true, by decide⟩
theorem mhBTerm53 : Statement (.mhBTerm53) := fun _ => ⟨.mhRun true, by decide⟩
theorem mhBTerm54 : Statement (.mhBTerm54) := fun _ => ⟨.mhRun true, by decide⟩
theorem mhBTerm55 : Statement (.mhBTerm55) := fun _ => ⟨.mhRun true, by decide⟩
theorem mhBTerm56 : Statement (.mhBTerm56) := fun _ => ⟨.mhRun true, by decide⟩
theorem mhBTerm57 : Statement (.mhBTerm57) := fun _ => ⟨.mhRun true, by decide⟩
theorem mhBTerm58 : Statement (.mhBTerm58) := fun _ => ⟨.mhRun true, by decide⟩
theorem mhBTerm59 : Statement (.mhBTerm59) := fun _ => ⟨.mhRun true, by decide⟩
theorem mhBTerm60 : Statement (.mhBTerm60) := fun _ => ⟨.mhRun true, by decide⟩
theorem mhBTerm61 : Statement (.mhBTerm61) := fun _ => ⟨.mhRun true, by decide⟩
theorem mhBTerm62 : Statement (.mhBTerm62) := fun _ => ⟨.mhRun true, by decide⟩
theorem mhBTerm63 : Statement (.mhBTerm63) := fun _ => ⟨.mhRun true, by decide⟩
theorem mhBMakeup64 : Statement (.mhBMakeup64) := fun _ => ⟨.mhRun true, by decide⟩
theorem mhBMakeup128 : Statement (.mhBMakeup128) := fun _ => ⟨.mhRun true, by decide⟩
theorem mhBMakeup192 : Statement (.mhBMakeup192) := fun _ => ⟨.mhRun true, by decide⟩
theorem mhBMakeup256 : Statement (.mhBMakeup256) := fun _ => ⟨.mhRun true, by decide⟩
theorem mhBMakeup320 : Statement (.mhBMakeup320) := fun _ => ⟨.mhRun true, by decide⟩
theorem mhBMakeup384 : Statement (.mhBMakeup384) := fun _ => ⟨.mhRun true, by decide⟩
theorem mhBMakeup448 : Statement (.mhBMakeup448) := fun _ => ⟨.mhRun true, by decide⟩
theorem mhBMakeup512 : Statement (.mhBMakeup512) := fun _ => ⟨.mhRun true, by decide⟩
theorem mhBMakeup576 : Statement (.mhBMakeup576) := fun _ => ⟨.mhRun true, by decide⟩
theorem mhBMakeup640 : Statement (.mhBMakeup640) := fun _ => ⟨.mhRun true, by decide⟩
theorem mhBMakeup704 : Statement (.mhBMakeup704) := fun _ => ⟨.mhRun true, by decide⟩
theorem mhBMakeup768 : Statement (.mhBMakeup768) := fun _ => ⟨.mhRun true, by decide⟩
theorem mhBMakeup832 : Statement (.mhBMakeup832) := fun _ => ⟨.mhRun true, by decide⟩
theorem mhBMakeup896 : Statement (.mhBMakeup896) := fun _ => ⟨.mhRun true, by decide⟩
theorem mhBMakeup960 : Statement (.mhBMakeup960) := fun _ => ⟨.mhRun true, by decide⟩
theorem mhBMakeup1024 : Statement (.mhBMakeup1024) := fun _ => ⟨.mhRun true, by decide⟩
theorem mhBMakeup1088 : Statement (.mhBMakeup1088) := fun _ => ⟨.mhRun true, by decide⟩
theorem mhBMakeup1152 : Statement (.mhBMakeup1152) := fun _ => ⟨.mhRun true, by decide⟩
theorem mhBMakeup1216 : Statement (.mhBMakeup1216) := fun _ => ⟨.mhRun true, by decide⟩
theorem mhBMakeup1280 : Statement (.mhBMakeup1280) := fun _ => ⟨.mhRun true, by decide⟩
theorem mhBMakeup1344 : Statement (.mhBMakeup1344) := fun _ => ⟨.mhRun true, by decide⟩
theorem mhBMakeup1408 : Statement (.mhBMakeup1408) := fun _ => ⟨.mhRun true, by decide⟩
theorem mhBMakeup1472 : Statement (.mhBMakeup1472) := fun _ => ⟨.mhRun true, by decide⟩
theorem mhBMakeup1536 : Statement (.mhBMakeup1536) := fun _ => ⟨.mhRun true, by decide⟩
theorem mhBMakeup1600 : Statement (.mhBMakeup1600) := fun _ => ⟨.mhRun true, by decide⟩
theorem mhBMakeup1664 : Statement (.mhBMakeup1664) := fun _ => ⟨.mhRun true, by decide⟩
theorem mhBMakeup1728 : Statement (.mhBMakeup1728) := fun _ => ⟨.mhRun true, by decide⟩
theorem mhExtMakeup1792 : Statement (.mhExtMakeup1792) := fun _ => ⟨.mhRun false, by decide⟩
theorem mhExtMakeup1856 : Statement (.mhExtMakeup1856) := fun _ => ⟨.mhRun false, by decide⟩
theorem mhExtMakeup1920 : Statement (.mhExtMakeup1920) := fun _ => ⟨.mhRun false, by decide⟩
theorem mhExtMakeup1984 : Statement (.mhExtMakeup1984) := fun _ => ⟨.mhRun false, by decide⟩
theorem mhExtMakeup2048 : Statement (.mhExtMakeup2048) := fun _ => ⟨.mhRun false, by decide⟩
theorem mhExtMakeup2112 : Statement (.mhExtMakeup2112) := fun _ => ⟨.mhRun false, by decide⟩
theorem mhExtMakeup2176 : Statement (.mhExtMakeup2176) := fun _ => ⟨.mhRun false, by decide⟩
theorem mhExtMakeup2240 : Statement (.mhExtMakeup2240) := fun _ => ⟨.mhRun false, by decide⟩
theorem mhExtMakeup2304 : Statement (.mhExtMakeup2304) := fun _ => ⟨.mhRun false, by decide⟩
theorem mhExtMakeup2368 : Statement (.mhExtMakeup2368) := fun _ => ⟨.mhRun false, by decide⟩
theorem mhExtMakeup2432 : Statement (.mhExtMakeup2432) := fun _ => ⟨.mhRun false, by decide⟩
theorem mhExtMakeup2496 : Statement (.mhExtMakeup2496) := fun _ => ⟨.mhRun false, by decide⟩
theorem mhExtMakeup2560 : Statement (.mhExtMakeup2560) := fun _ => ⟨.mhRun false, by decide⟩

end Sys2Proof.Laws.Encodes
end

