-- ==== Sys2Proof/Tests/Slice0.lean ====
section
/-! SUPPORT. Tests: what the checks of WellFormed refuse, every constructor's decoding from words written out from the
spec's tables, vectors of spec/95_test_vectors.md, and for each statement with hypotheses a state that meets them. -/

namespace Sys2Proof.Tests

open Sys2Proof Sys2Proof.Machine Host

set_option Elab.async false

/-! ### WellFormed refuses -/

theorem test_wf_reserved_bits_zero : (Instr.reservedBits 0 3).WellFormed = false := by decide
theorem test_wf_dict_below_258 : (Instr.lzwDict 257).WellFormed = false := by decide
theorem test_wf_kwkwk_below_258 : (Instr.lzwKwkwk 256).WellFormed = false := by decide
theorem test_wf_bad_code_below_258 : (Instr.lzwBad 65).WellFormed = false := by decide
theorem test_wf_repeat_zero : (Instr.pbRepeat 0).WellFormed = false := by decide
theorem test_wf_reserved_marker_low : (Instr.jpegRes 1).WellFormed = false := by decide
theorem test_wf_reserved_marker_high : (Instr.jpegRes 0xC0).WellFormed = false := by decide
theorem test_wf_dc_magnitude_wide : (Instr.jpegDcSymbol 3 8).WellFormed = false := by decide
theorem test_wf_ac_magnitude_wide : (Instr.jpegAcSymbol 0x10 1).WellFormed = false := by decide

/-! ### Words written out from the spec's encodings -/

/-- Every word of `l` (its length, its bits as a number, and what it stands for) decodes so. -/
def reads (f : Fmt) (l : List (Nat × Nat × Instr)) : Bool :=
  l.all fun (n, w, i) => decode f (cw n w) == .found i n

/-- Words of R80 to R82. -/
theorem test_decode_commands :
    reads .cmd
      [ (32, 0x00000000, .nop), (32, 0x00000001, .reset), (32, 0x00000002, .sliceBegin),
        (32, 0x00000003, .stripBegin), (32, 0x00000004, .decode), (32, 0x00000005, .loadJpegTables),
        (32, 0x00000006, .upsampleYcbcr), (32, 0x00000007, .stripEnd), (32, 0x00000008, .reservedOpc 0),
        (32, 0x0000000F, .reservedOpc 7), (32, 0x00000014, .reservedBits 1 4),
        (32, 0x80000001, .reservedBits 0x8000000 1) ] = true := by
  decide +kernel

/-- R83: codes of 9 bits most significant bit first, after 65 and 66 (nextFree 259), and as the first code. -/
theorem test_decode_lzw :
    reads (.lzw false 9 259 true)
      [ (9, 0b001000001, .lzwLiteral 65), (9, 0b100000000, .lzwClear), (9, 0b100000001, .lzwEoi),
        (9, 0b100000010, .lzwDict 258), (9, 0b100000011, .lzwKwkwk 259), (9, 0b100000100, .lzwBad 260) ] = true ∧
    reads (.lzw false 9 258 false) [(9, 0b100000010, .lzwBad 258)] = true ∧
    reads (.lzw true 9 258 false) [(9, 0b000000001, .lzwClear)] = true := by
  decide +kernel

/-- R84, R89, R235: control bytes and the tag bit. -/
theorem test_decode_control_bytes :
    reads .packBits [(8, 0x02, .pbLiteral 2), (8, 0x80, .pbNop), (8, 0xFE, .pbRepeat 0x7E)] = true ∧
    reads .logLuv [(8, 0x83, .logluvRun 3), (8, 0x02, .logluvLiteral 2)] = true ∧
    reads .tag [(1, 1, .g3Tag 1), (1, 0, .g3Tag 0)] = true := by
  decide +kernel

/-- R86: mode codes, and the EOL with fill bits before it. -/
theorem test_decode_modes :
    reads .readMode
      [ (4, 0b0001, .readP), (3, 0b001, .readH), (1, 0b1, .readV0), (3, 0b011, .readVr1), (6, 0b000011, .readVr2),
        (7, 0b0000011, .readVr3), (3, 0b010, .readVl1), (6, 0b000010, .readVl2), (7, 0b0000010, .readVl3),
        (10, 0b0000001111, .readExt 7) ] = true ∧
    reads .eol [(12, 1, .faxEol), (15, 1, .faxEol)] = true := by
  decide +kernel

/-- R87, R321: markers. -/
theorem test_decode_markers :
    reads .marker
      [ (16, 0xFFD8, .jpegSoi), (16, 0xFFD9, .jpegEoi), (16, 0xFFDB, .jpegDqt), (16, 0xFFC4, .jpegDht),
        (16, 0xFFDD, .jpegDri), (16, 0xFFC0, .jpegSof0), (16, 0xFFC1, .jpegSof1), (16, 0xFFDA, .jpegSos),
        (16, 0xFFD5, .jpegRstm 5), (16, 0xFFE1, .jpegAppn 1), (16, 0xFFFE, .jpegCom), (16, 0xFFC2, .jpegSof2),
        (16, 0xFFC3, .jpegSof3), (16, 0xFFC5, .jpegSof5), (16, 0xFFC6, .jpegSof6), (16, 0xFFC7, .jpegSof7),
        (16, 0xFFC8, .jpegJpg), (16, 0xFFC9, .jpegSof9), (16, 0xFFCA, .jpegSof10), (16, 0xFFCB, .jpegSof11),
        (16, 0xFFCC, .jpegDac), (16, 0xFFCD, .jpegSof13), (16, 0xFFCE, .jpegSof14), (16, 0xFFCF, .jpegSof15),
        (16, 0xFFDE, .jpegDhp), (16, 0xFFDF, .jpegExp), (16, 0xFFDC, .jpegDnl), (16, 0xFF01, .jpegTem),
        (16, 0xFF02, .jpegRes 2), (16, 0xFFBF, .jpegRes 0xBF) ] = true ∧
    reads .stuff [(16, 0xFF00, .jpegStuff)] = true := by
  decide +kernel

/-- A table of two codes: `0` for 4 and `10` for 0x10 + 1 (R322). -/
def smallTable : HuffTable :=
  (buildHuff [1, 1, 0, 0, 0, 0, 0, 0, 0, 0, 0, 0, 0, 0, 0, 0] [0x04, 0x11]).getD oneCodeTable

/-- R88, R92: a DC symbol of category 4 with magnitude bits 1010, and an AC symbol of run 1, size 1, bit 0. -/
theorem test_decode_entropy_symbols :
    reads (.dcSymbol smallTable) [(5, 0b01010, .jpegDcSymbol 4 10)] = true ∧
    reads (.acSymbol smallTable 1) [(3, 0b100, .jpegAcSymbol 0x11 0)] = true ∧
    reads .zlib [(0, 0, .zlibStream)] = true := by
  decide +kernel

/-- A word of `n` bits and what it stands for. -/
def word (n v : Nat) (i : Instr) : Nat × Nat × Instr := (n, v, i)

/-- Words of R193. -/
theorem test_decode_white_terminating :
    reads (.mhRun false) (
    [ word 8 0b00110101 .mhWTerm0, word 6 0b000111 .mhWTerm1, word 4 0b0111 .mhWTerm2, word 4 0b1000 .mhWTerm3,
      word 4 0b1011 .mhWTerm4, word 4 0b1100 .mhWTerm5, word 4 0b1110 .mhWTerm6, word 4 0b1111 .mhWTerm7,
      word 5 0b10011 .mhWTerm8, word 5 0b10100 .mhWTerm9, word 5 0b00111 .mhWTerm10, word 5 0b01000 .mhWTerm11,
      word 6 0b001000 .mhWTerm12, word 6 0b000011 .mhWTerm13, word 6 0b110100 .mhWTerm14,
      word 6 0b110101 .mhWTerm15, word 6 0b101010 .mhWTerm16, word 6 0b101011 .mhWTerm17,
      word 7 0b0100111 .mhWTerm18, word 7 0b0001100 .mhWTerm19, word 7 0b0001000 .mhWTerm20,
      word 7 0b0010111 .mhWTerm21, word 7 0b0000011 .mhWTerm22, word 7 0b0000100 .mhWTerm23,
      word 7 0b0101000 .mhWTerm24, word 7 0b0101011 .mhWTerm25, word 7 0b0010011 .mhWTerm26,
      word 7 0b0100100 .mhWTerm27, word 7 0b0011000 .mhWTerm28, word 8 0b00000010 .mhWTerm29,
      word 8 0b00000011 .mhWTerm30, word 8 0b00011010 .mhWTerm31 ] ++
    [ word 8 0b00011011 .mhWTerm32, word 8 0b00010010 .mhWTerm33, word 8 0b00010011 .mhWTerm34,
      word 8 0b00010100 .mhWTerm35, word 8 0b00010101 .mhWTerm36, word 8 0b00010110 .mhWTerm37,
      word 8 0b00010111 .mhWTerm38, word 8 0b00101000 .mhWTerm39, word 8 0b00101001 .mhWTerm40,
      word 8 0b00101010 .mhWTerm41, word 8 0b00101011 .mhWTerm42, word 8 0b00101100 .mhWTerm43,
      word 8 0b00101101 .mhWTerm44, word 8 0b00000100 .mhWTerm45, word 8 0b00000101 .mhWTerm46,
      word 8 0b00001010 .mhWTerm47, word 8 0b00001011 .mhWTerm48, word 8 0b01010010 .mhWTerm49,
      word 8 0b01010011 .mhWTerm50, word 8 0b01010100 .mhWTerm51, word 8 0b01010101 .mhWTerm52,
      word 8 0b00100100 .mhWTerm53, word 8 0b00100101 .mhWTerm54, word 8 0b01011000 .mhWTerm55,
      word 8 0b01011001 .mhWTerm56, word 8 0b01011010 .mhWTerm57, word 8 0b01011011 .mhWTerm58,
      word 8 0b01001010 .mhWTerm59, word 8 0b01001011 .mhWTerm60, word 8 0b00110010 .mhWTerm61,
      word 8 0b00110011 .mhWTerm62, word 8 0b00110100 .mhWTerm63 ]) = true := by
  decide +kernel

/-- Words of R194. -/
theorem test_decode_white_makeup :
    reads (.mhRun false) (
    [ word 5 0b11011 .mhWMakeup64, word 5 0b10010 .mhWMakeup128, word 6 0b010111 .mhWMakeup192,
      word 7 0b0110111 .mhWMakeup256, word 8 0b00110110 .mhWMakeup320, word 8 0b00110111 .mhWMakeup384,
      word 8 0b01100100 .mhWMakeup448, word 8 0b01100101 .mhWMakeup512, word 8 0b01101000 .mhWMakeup576,
      word 8 0b01100111 .mhWMakeup640, word 9 0b011001100 .mhWMakeup704, word 9 0b011001101 .mhWMakeup768,
      word 9 0b011010010 .mhWMakeup832, word 9 0b011010011 .mhWMakeup896, word 9 0b011010100 .mhWMakeup960,
      word 9 0b011010101 .mhWMakeup1024, word 9 0b011010110 .mhWMakeup1088, word 9 0b011010111 .mhWMakeup1152,
      word 9 0b011011000 .mhWMakeup1216, word 9 0b011011001 .mhWMakeup1280, word 9 0b011011010 .mhWMakeup1344,
      word 9 0b011011011 .mhWMakeup1408, word 9 0b010011000 .mhWMakeup1472, word 9 0b010011001 .mhWMakeup1536,
      word 9 0b010011010 .mhWMakeup1600, word 6 0b011000 .mhWMakeup1664, word 9 0b010011011 .mhWMakeup1728 ]) = true := by
  decide +kernel

/-- Words of R195. -/
theorem test_decode_black_terminating :
    reads (.mhRun true) (
    [ word 10 0b0000110111 .mhBTerm0, word 3 0b010 .mhBTerm1, word 2 0b11 .mhBTerm2, word 2 0b10 .mhBTerm3,
      word 3 0b011 .mhBTerm4, word 4 0b0011 .mhBTerm5, word 4 0b0010 .mhBTerm6, word 5 0b00011 .mhBTerm7,
      word 6 0b000101 .mhBTerm8, word 6 0b000100 .mhBTerm9, word 7 0b0000100 .mhBTerm10,
      word 7 0b0000101 .mhBTerm11, word 7 0b0000111 .mhBTerm12, word 8 0b00000100 .mhBTerm13,
      word 8 0b00000111 .mhBTerm14, word 9 0b000011000 .mhBTerm15, word 10 0b0000010111 .mhBTerm16,
      word 10 0b0000011000 .mhBTerm17, word 10 0b0000001000 .mhBTerm18, word 11 0b00001100111 .mhBTerm19,
      word 11 0b00001101000 .mhBTerm20, word 11 0b00001101100 .mhBTerm21, word 11 0b00000110111 .mhBTerm22,
      word 11 0b00000101000 .mhBTerm23, word 11 0b00000010111 .mhBTerm24, word 11 0b00000011000 .mhBTerm25,
      word 12 0b000011001010 .mhBTerm26, word 12 0b000011001011 .mhBTerm27, word 12 0b000011001100 .mhBTerm28,
      word 12 0b000011001101 .mhBTerm29, word 12 0b000001101000 .mhBTerm30, word 12 0b000001101001 .mhBTerm31 ] ++
    [ word 12 0b000001101010 .mhBTerm32, word 12 0b000001101011 .mhBTerm33, word 12 0b000011010010 .mhBTerm34,
      word 12 0b000011010011 .mhBTerm35, word 12 0b000011010100 .mhBTerm36, word 12 0b000011010101 .mhBTerm37,
      word 12 0b000011010110 .mhBTerm38, word 12 0b000011010111 .mhBTerm39, word 12 0b000001101100 .mhBTerm40,
      word 12 0b000001101101 .mhBTerm41, word 12 0b000011011010 .mhBTerm42, word 12 0b000011011011 .mhBTerm43,
      word 12 0b000001010100 .mhBTerm44, word 12 0b000001010101 .mhBTerm45, word 12 0b000001010110 .mhBTerm46,
      word 12 0b000001010111 .mhBTerm47, word 12 0b000001100100 .mhBTerm48, word 12 0b000001100101 .mhBTerm49,
      word 12 0b000001010010 .mhBTerm50, word 12 0b000001010011 .mhBTerm51, word 12 0b000000100100 .mhBTerm52,
      word 12 0b000000110111 .mhBTerm53, word 12 0b000000111000 .mhBTerm54, word 12 0b000000100111 .mhBTerm55,
      word 12 0b000000101000 .mhBTerm56, word 12 0b000001011000 .mhBTerm57, word 12 0b000001011001 .mhBTerm58,
      word 12 0b000000101011 .mhBTerm59, word 12 0b000000101100 .mhBTerm60, word 12 0b000001011010 .mhBTerm61,
      word 12 0b000001100110 .mhBTerm62, word 12 0b000001100111 .mhBTerm63 ]) = true := by
  decide +kernel

/-- Words of R195. -/
theorem test_decode_black_makeup :
    reads (.mhRun true) (
    [ word 10 0b0000001111 .mhBMakeup64, word 12 0b000011001000 .mhBMakeup128,
      word 12 0b000011001001 .mhBMakeup192, word 12 0b000001011011 .mhBMakeup256,
      word 12 0b000000110011 .mhBMakeup320, word 12 0b000000110100 .mhBMakeup384,
      word 12 0b000000110101 .mhBMakeup448, word 13 0b0000001101100 .mhBMakeup512,
      word 13 0b0000001101101 .mhBMakeup576, word 13 0b0000001001010 .mhBMakeup640,
      word 13 0b0000001001011 .mhBMakeup704, word 13 0b0000001001100 .mhBMakeup768,
      word 13 0b0000001001101 .mhBMakeup832, word 13 0b0000001110010 .mhBMakeup896,
      word 13 0b0000001110011 .mhBMakeup960, word 13 0b0000001110100 .mhBMakeup1024,
      word 13 0b0000001110101 .mhBMakeup1088, word 13 0b0000001110110 .mhBMakeup1152,
      word 13 0b0000001110111 .mhBMakeup1216, word 13 0b0000001010010 .mhBMakeup1280,
      word 13 0b0000001010011 .mhBMakeup1344, word 13 0b0000001010100 .mhBMakeup1408,
      word 13 0b0000001010101 .mhBMakeup1472, word 13 0b0000001011010 .mhBMakeup1536,
      word 13 0b0000001011011 .mhBMakeup1600, word 13 0b0000001100100 .mhBMakeup1664,
      word 13 0b0000001100101 .mhBMakeup1728 ]) = true := by
  decide +kernel

/-- Words of R196, the same in both colours. -/
theorem test_decode_extended_makeup :
    ([false, true].all fun black => reads (.mhRun black) (
    [ word 11 0b00000001000 .mhExtMakeup1792, word 11 0b00000001100 .mhExtMakeup1856,
      word 11 0b00000001101 .mhExtMakeup1920, word 12 0b000000010010 .mhExtMakeup1984,
      word 12 0b000000010011 .mhExtMakeup2048, word 12 0b000000010100 .mhExtMakeup2112,
      word 12 0b000000010101 .mhExtMakeup2176, word 12 0b000000010110 .mhExtMakeup2240,
      word 12 0b000000010111 .mhExtMakeup2304, word 12 0b000000011100 .mhExtMakeup2368,
      word 12 0b000000011101 .mhExtMakeup2432, word 12 0b000000011110 .mhExtMakeup2496,
      word 12 0b000000011111 .mhExtMakeup2560 ])) = true := by
  decide +kernel

/-! ### Values of the spec's own examples -/

/-- R136. -/
theorem test_bit_orders :
    natOfBits (peekBits false [0x80, 0x40] 9 0) = 256 ∧ natOfBitsL (peekBits true [0x00, 0x01] 9 0) = 256 ∧
    peekBits true [0x5E] 8 0 = [false, true, true, true, true, false, true, false] := by
  decide +kernel

/-- R382. -/
theorem test_ycbcr_examples :
    ycbcrToRgb YccCoefs.reset 100 128 200 = [201, 49, 100] ∧ ycbcrToRgb YccCoefs.reset 255 0 255 = [255, 208, 28] ∧
    ycbcrToRgb YccCoefs.reset 76 85 255 = [254, 0, 0] := by
  decide +kernel

/-- R382, with REFBW = 16, 235, 128, 240, 128, 240. -/
theorem test_ycbcr_reference_levels :
    ycbcrToRgb
      { YccCoefs.reset with refbw0Num := 16, refbw1Num := 235, refbw3Num := 240, refbw5Num := 240 } 100 128 200 =
      [212, 40, 98] := by
  decide +kernel

/-- 95_test_vectors.md 1.4: the upsampled Cb rows of a 4 by 4 image, centered. -/
theorem test_upsample_centered :
    let u : Upsampling := { w := 4, h := 4, hs := 2, vs := 2, posn := 1, raw := true }
    let b : List Byte := [0, 0, 0, 0, 16, 0, 0, 0, 0, 0, 32, 0, 0, 0, 0, 0, 48, 0, 0, 0, 0, 0, 64, 0]
    (List.range 4).map (fun y => (List.range 4).map fun x => (u.up b 0 x y).toNat) =
      [[16, 20, 28, 32], [24, 28, 36, 40], [40, 44, 52, 56], [48, 52, 60, 64]] := by
  decide +kernel

/-- R294's `L` values need `exp`; R292's neutral chromaticity and R289's zero do not. -/
theorem test_logluv_constants :
    y16 Config.params 0x8000 = F64.ofNat 0 ∧ y10 Config.params 0 = F64.ofNat 0 ∧
    uvDecode Config.params 16289 = (F64.ofRatio 210526316 1000000000, F64.ofRatio 473684211 1000000000) := by
  decide +kernel

/-- 95_test_vectors.md 1.2: the predictor with one and with three samples a pixel. -/
theorem test_predictor :
    predictRow { Latched.reset with bps := 8 } [0x05, 0xFA, 0x01] = [0x05, 0xFF, 0x00] ∧
    predictRow { Latched.reset with bps := 8, spp := 3 } [0x10, 0x20, 0x30, 0x01, 0x02, 0x03] =
      [0x10, 0x20, 0x30, 0x11, 0x22, 0x33] ∧
    predictRow { Latched.reset with bps := 8, spp := 3, layout := 1 } [0x10, 0x20, 0x30, 0x01, 0x02, 0x03] =
      [0x10, 0x30, 0x60, 0x61, 0x63, 0x66] := by
  decide +kernel

/-- The run codes of a table stand in the order of their run lengths, so each length has one code. -/
theorem test_run_tables :
    mhWhiteTerm.map (·.1) = List.range 64 ∧ mhBlackTerm.map (·.1) = List.range 64 ∧
    mhWhiteMakeup.map (·.1) = (List.range 27).map (fun i => 64 * (i + 1)) ∧
    mhBlackMakeup.map (·.1) = (List.range 27).map (fun i => 64 * (i + 1)) ∧
    mhExtMakeup.map (·.1) = (List.range 13).map (fun i => 1792 + 64 * i) := by
  decide +kernel

/-! ### Streams of 95_test_vectors.md -/

/-- The parameters with sizes that these vectors need. -/
def sized : Params := { Config.params with maxInBytes := 4096, maxOutBytes := 4096, maxWidth := 4096 }

/-- A slice with `b` in IN and its length in IN_LEN. -/
def sliceWith (r : Regs) (b : List Byte) : State :=
  { State.reset with
    sliceActive := true
    regs := { r with inLen := BitVec.ofNat 32 b.length }
    inMem := memWrite [] 0 b }

/-- The strip that STRIP_BEGIN begins there. -/
def stripOf (r : Regs) (b : List Byte) : State := (sliceWith r b).beginStrip sized

/-- The decoded stream of `b`. -/
def streamOf (r : Regs) (b : List Byte) : Bool × List Byte × Terminator :=
  let s := stripOf r b
  (s.stripActive, s.streamBytes, s.streamEnd)

def lzwRegs : Regs := { Regs.reset with codec := 5, bpr := 1 }
def packRegs : Regs := { Regs.reset with codec := 32773, bpr := 1 }
def faxRegs (codec : Word) : Regs := { Regs.reset with codec := codec, width := 8, bpr := 1 }
def jpegRegs : Regs := { Regs.reset with codec := 7, width := 8, bpr := 8, bps := 8 }

theorem test_lzw_new_variant :
    streamOf lzwRegs [0x80, 0x10, 0x48, 0x50, 0x28, 0x24, 0x04] =
      (true, [0x41, 0x42, 0x41, 0x42, 0x41, 0x42, 0x41], .done) := by
  decide +kernel

theorem test_lzw_old_variant :
    streamOf lzwRegs [0x00, 0x83, 0x08, 0x11, 0x48, 0x30, 0x20] =
      (true, [0x41, 0x42, 0x41, 0x42, 0x41, 0x42, 0x41], .done) := by
  decide +kernel

theorem test_lzw_bad_code :
    streamOf lzwRegs [0x80, 0x10, 0x65, 0x80] = (true, [0x41], .error .lzwBadCode) := by
  decide +kernel

theorem test_packbits :
    streamOf packRegs [0x80, 0x80, 0xFF, 0x5A] = (true, [0x5A, 0x5A], .done) ∧
    streamOf packRegs [0x02, 0x41, 0x42, 0x43] = (true, [0x41, 0x42, 0x43], .done) := by
  decide +kernel

theorem test_deflate_empty : streamOf { Regs.reset with codec := 8, bpr := 1 } [] = (true, [], .error .inflate) := by
  decide +kernel

/-- A primitive that copies bytes up to a zero byte, where its stream ends. -/
def upToZero : Params := { sized with inflateByte := fun _ b => if b = 0 then ([], .ends) else ([b], .goesOn) }

/-- 49_deflate.md R412: bytes after the end of the stream are ignored, and a stream cut short is a failure after the
bytes it produced. -/
theorem test_inflate_ends : inflate upToZero [7, 8, 0, 9] = ([7, 8], true) ∧ inflate upToZero [7, 8] = ([7, 8], false) := by
  decide

theorem test_mh_rows :
    streamOf (faxRegs 2) [0x7A, 0x00] = (true, [0x38], .done) ∧
    streamOf (faxRegs 2) [0x35, 0x14] = (true, [0xFF], .done) ∧
    streamOf { faxRegs 2 with width := 64, bpr := 8 } [0xD9, 0xA8] = (true, List.replicate 8 0, .done) := by
  decide +kernel

theorem test_mh_errors :
    streamOf (faxRegs 2) [0x7A, 0x00, 0x00] = (true, [0x38], .error .faxBadCode) ∧
    streamOf (faxRegs 2) [0xA0] = (true, [], .error .faxBadRun) := by
  decide +kernel

theorem test_mh_fill_order : streamOf { faxRegs 2 with layout := 4 } [0x5E, 0x00] = (true, [0x38], .done) := by
  decide +kernel

theorem test_group4 :
    streamOf (faxRegs 4) [0x2F, 0x78, 0x00, 0x80, 0x08] = (true, [0x38, 0x38], .done) ∧
    streamOf (faxRegs 4) [0x2F, 0x46, 0x00, 0x20, 0x02] = (true, [0x38, 0x00], .done) := by
  decide +kernel

theorem test_group4_errors :
    streamOf (faxRegs 4) [0x60] = (true, [], .error .faxBadRun) ∧
    streamOf (faxRegs 4) [0x03, 0xC0] = (true, [], .error .faxUncompressed) := by
  decide +kernel

theorem test_group3 :
    streamOf (faxRegs 3) [0x00, 0x17, 0xA0, 0x00, 0x5E, 0x80, 0x01, 0x00, 0x10, 0x01, 0x00, 0x10, 0x01, 0x00, 0x10] =
      (true, [0x38, 0x38], .done) ∧
    streamOf { faxRegs 3 with t4opt := 1 }
      [0x00, 0x1B, 0xD0, 0x00, 0x2E, 0x00, 0x30, 0x01, 0x80, 0x0C, 0x00, 0x60, 0x03, 0x00, 0x18] =
      (true, [0x38, 0x38], .done) := by
  decide +kernel

theorem test_logluv_errors :
    streamOf { Regs.reset with codec := 34676, photometric := 32844, width := 2, bpr := 2 } [0x83, 0x3F, 0x00, 0x00] =
      (true, [], .error .logluvRun) ∧
    streamOf { Regs.reset with codec := 34676, photometric := 32844, width := 2, bpr := 2 } [0x02, 0x3F, 0x3E, 0x80] =
      (true, [], .error .truncated) := by
  decide +kernel

/-- SOI, the DQT and the DHT of R371: first quantisation value 8, a DC code `0` for 4 and an AC code `0` for 0. -/
def jpegHead : List Byte :=
  [0xFF, 0xD8, 0xFF, 0xDB, 0x00, 0x43, 0x00, 0x08] ++ List.replicate 63 0x01 ++
    [0xFF, 0xC4, 0x00, 0x26, 0x00, 0x01] ++ List.replicate 15 0x00 ++ [0x04, 0x10, 0x01] ++
    List.replicate 15 0x00 ++ [0x00]

/-- SOF0 of an image `x` wide and 8 high. -/
def jpegFrame (x : Byte) : List Byte := [0xFF, 0xC0, 0x00, 0x0B, 0x08, 0x00, 0x08, 0x00, x, 0x01, 0x01, 0x11, 0x00]

/-- SOS. -/
def jpegScan : List Byte := [0xFF, 0xDA, 0x00, 0x08, 0x01, 0x01, 0x00, 0x00, 0x3F, 0x00]

theorem test_jpeg_strip :
    streamOf jpegRegs (jpegHead ++ jpegFrame 8 ++ jpegScan ++ [0x53, 0xFF, 0xD9]) =
      (true, List.replicate 64 0x8A, .done) := by
  decide +kernel

theorem test_jpeg_two_blocks :
    (streamOf { jpegRegs with width := 16, bpr := 16 }
      (jpegHead ++ jpegFrame 16 ++ jpegScan ++ [0x50, 0xAF, 0xFF, 0xD9])).2.1.take 16 =
      List.replicate 8 0x8A ++ List.replicate 8 0x80 := by
  decide +kernel

theorem test_jpeg_restart :
    (streamOf { jpegRegs with width := 16, bpr := 16 }
      (jpegHead ++ jpegFrame 16 ++ [0xFF, 0xDD, 0x00, 0x04, 0x00, 0x01] ++ jpegScan ++
        [0x53, 0xFF, 0xD0, 0x53, 0xFF, 0xD9])).2.1.take 16 = List.replicate 16 0x8A ∧
    streamOf { jpegRegs with width := 16, bpr := 16 }
      (jpegHead ++ jpegFrame 16 ++ [0xFF, 0xDD, 0x00, 0x04, 0x00, 0x01] ++ jpegScan ++
        [0x53, 0xFF, 0xD1, 0x53, 0xFF, 0xD9]) = (true, [], .error .jpegRestart) := by
  decide +kernel

theorem test_jpeg_geometry :
    streamOf { jpegRegs with width := 9, bpr := 9 } (jpegHead ++ jpegFrame 8 ++ jpegScan ++ [0x53, 0xFF, 0xD9]) =
      (true, [], .error .jpegGeometry) := by
  decide +kernel

/-- 41_bitstream.md R138 and 47_jpeg.md R333, a block that needs bits: no byte and EOI are TRUNCATED; a last `FF` and
RST0 are markers other than EOI. -/
theorem test_jpeg_entropy_ends :
    ([[], [0xFF, 0xD9], [0xFF], [0xFF, 0xD0]] : List (List Byte)).map
        (fun b => (streamOf jpegRegs (jpegHead ++ jpegFrame 8 ++ jpegScan ++ b)).2.2) =
      [.error .truncated, .error .truncated, .error .jpegBadData, .error .jpegBadData] := by
  decide +kernel

/-- 95_test_vectors.md 2.9: the code words of the table builder, and BITS that give none. -/
theorem test_huffman_builder :
    (huffGen [0, 1, 5, 1, 1, 1, 1, 1, 1, 0, 0, 0, 0, 0, 0, 0] 1 0) =
      some [(2, 0b00), (3, 0b010), (3, 0b011), (3, 0b100), (3, 0b101), (3, 0b110), (4, 0b1110), (5, 0b11110),
        (6, 0b111110), (7, 0b1111110), (8, 0b11111110), (9, 0b111111110)] ∧
    buildHuff [2, 0, 0, 0, 0, 0, 0, 0, 0, 0, 0, 0, 0, 0, 0, 0] [1, 2] = none := by
  decide +kernel

/-! ### One step each -/

/-- 60_exceptions.md R421: reserved bits of a register are not stored. -/
theorem test_layout_mask :
    (State.reset.writeReg 0x038 0xFFFFFFFF).readReg 0x038 = 0x0000001F := by
  decide +kernel

/-- R105: values after RESET. -/
theorem test_reset_values :
    State.reset.readReg 0x030 = 1 ∧ State.reset.readReg 0x048 = 0x00000122 ∧ State.reset.readReg 0x004 = 0 := by
  decide +kernel

/-- R109's example, through the fetch. -/
theorem test_step_illegal_command :
    (match step (State.reset.withFetchWord 32 0x00000009) with
      | .next t => t.readReg 0x008
      | _ => 0) = 0x00000204 := by
  decide +kernel

/-- R106's example: a tables stream of one DRI. -/
theorem test_load_tables :
    let t := (sliceWith Regs.reset [0xFF, 0xD8, 0xFF, 0xDD, 0x00, 0x04, 0x00, 0x08, 0xFF, 0xD9]).loadTables sized
    t.tables.ri = 8 ∧ t.tablesLoaded = true ∧ t.err = false := by
  decide +kernel

/-- R424's example: ERR_ROW = 10 + floor(5 / 4). -/
theorem test_error_row :
    let s := { (stripOf { lzwRegs with bpr := 4, rowStart := 10 } []) with pos := 8 }
    (s.raiseStream .lzwBadCode 13).readReg 0x00C = 11 ∧ (s.raiseStream .lzwBadCode 13).readReg 0x008 = 0x3101 := by
  decide +kernel

/-- R102: the order of the checks. -/
theorem test_strip_begin_order :
    ((sliceWith { Regs.reset with codec := 6 } []).beginStrip sized).readReg 0x008 = 0x00002002 ∧
    ((sliceWith { Regs.reset with codec := 5 } []).beginStrip sized).readReg 0x008 = 0x00001103 ∧
    ({ sliceWith { Regs.reset with codec := 6 } [] with sliceActive := false }.beginStrip sized).readReg 0x008 =
      0x00000304 := by
  decide +kernel

/-! ### States that meet the statements' hypotheses, clause by clause -/

/-- A state whose strip is `st`. -/
def withStrip (st : StripState) : State := { State.reset with sliceActive := true, stripActive := true, strip := st }

/-- A strip of unit state `c` over `b`, with the configuration `L`. -/
def stripAt (L : Latched) (c : CodecState) (b : List Byte) : StripState :=
  { cfg := L, lin := b, bc := 0, emitted := [], term := none, codec := c }

/-- The codes 256, 65, 257: the stream is one byte. -/
def oneByte : State := stripOf lzwRegs [0x80, 0x10, 0x60, 0x20]

def latched : State := { State.reset with latch := some ⟨.illegalCmd, 0, 0⟩ }

/-- Equality of an outcome with a next state, decided. -/
def isNext (o : Outcome State Fault Refusal) (s : State) : Bool :=
  match o with
  | .next t => t == s
  | _ => false

theorem next_of_isNext (o : Outcome State Fault Refusal) (s : State) (h : isNext o s = true) : o = .next s := by
  cases o <;> simp_all [isNext]

theorem witness_no_error : State.reset.err = false ∧ State.reset.sliceActive = false := by decide
theorem witness_slice : (sliceWith lzwRegs []).err = false ∧ (sliceWith lzwRegs []).sliceActive = true := by decide

theorem witness_ReservedWordsRaise :
    16 ≤ (16 : Word).toNat ∧ 8 ≤ (8 : Word).toNat ∧ 8 ≤ (15 : Word).toNat ∧ (15 : Word).toNat < 16 := by decide

theorem witness_LatchedErrorRefusesCommands :
    latched.err = true ∧ encodeCmd .decode = some 4 ∧ Instr.decode ≠ .reset ∧ Instr.decode ≠ .sliceBegin := by decide

/-- The last byte of the stream, and no byte after it. -/
theorem witness_DecodeDelivers :
    let s := { oneByte with regs := oneByte.regs.put .rows 1 }
    s.err = false ∧ s.stripActive = true ∧ s.occ ≤ sized.maxOutBytes ∧ s.pos.toNat + s.occ ≤ 2 ^ 32 - 1 ∧
      s.pos.toNat + s.occ = s.streamBytes.length ∧ s.occ = 1 := by
  decide +kernel

/-- POS + occ = 2^32 is out of range; 2^32 - 1 is not, but the stream is shorter. -/
theorem witness_DecodeFails :
    State.reset.err = false ∧ State.reset.stripActive = false ∧
    (let s := { oneByte with regs := oneByte.regs.put .rows 1, pos := 0xFFFFFFFF };
      s.err = false ∧ s.stripActive = true ∧ 2 ^ 32 - 1 < s.pos.toNat + s.occ) ∧
    (let s := { oneByte with regs := oneByte.regs.put .rows 4097 };
      s.stripActive = true ∧ sized.maxOutBytes < s.occ) ∧
    (let s := { oneByte with regs := oneByte.regs.put .rows 1, pos := 0xFFFFFFFE };
      s.err = false ∧ s.stripActive = true ∧ s.occ ≤ sized.maxOutBytes ∧ s.pos.toNat + s.occ ≤ 2 ^ 32 - 1 ∧
        s.streamBytes.length < s.pos.toNat + s.occ) := by
  decide +kernel

/-- The unit state of `oneByte` is sound. -/
theorem oneByte_wf : oneByte.strip.Wf := by
  have h : oneByte.strip.codec = .lzw { old := false, nbits := 9, prev := none, dict := [] } := by decide +kernel
  unfold StripState.Wf
  rw [h]
  constructor <;> simp [LzwState.nextFree]

theorem witness_DecodeKeepsTheStream :
    let s := { oneByte with regs := oneByte.regs.put .rows 0 }
    s.strip.Wf ∧ exec .decode s = .next (s.decodeRows Config.params) ∧
      (s.decodeRows Config.params).err = false := by
  exact ⟨oneByte_wf, next_of_isNext _ _ (by decide +kernel), by decide +kernel⟩

/-- Five literals. -/
def fiveBytes : State := stripOf lzwRegs [0x80, 0x10, 0x48, 0x50, 0x28, 0x24, 0x04]

theorem witness_SplitInvariance :
    let t := (fiveBytes.withRows 2).decodeRows sized
    let u := (t.withRows 3).decodeRows sized
    fiveBytes.strip.Wf ∧ fiveBytes.err = false ∧ t.err = false ∧ u.err = false ∧
      (2 : Word).toNat + (3 : Word).toNat < 2 ^ 32 ∧ (2 + 3) * fiveBytes.strip.cfg.bpr.toNat ≤ sized.maxOutBytes := by
  refine ⟨?_, by decide +kernel⟩
  have h : fiveBytes.strip.codec = .lzw { old := false, nbits := 9, prev := none, dict := [] } := by decide +kernel
  unfold StripState.Wf
  rw [h]
  constructor <;> simp [LzwState.nextFree]

/-- A configuration of each unit's checks. -/
theorem witness_unitChecks :
    (faxRegs 2).latchAll.codec.toNat ∈ [2, 3, 4] ∧ (faxRegs 4).latchAll.codec.toNat ∈ [2, 3, 4] ∧
    lzwRegs.latchAll.codec.toNat ∈ [5, 8, 32946, 32773] ∧ jpegRegs.latchAll.codec.toNat = 7 ∧
    { Regs.reset with codec := 34677 }.latchAll.codec.toNat ∈ [34676, 34677] := by
  decide

/-- A pixel of one sample each, IN just long enough; and one byte less. -/
theorem witness_Upsample :
    let r := { Regs.reset with width := 1, height := 1, yccSub := 0x111, layout := 0x10 }
    let s := sliceWith r [0x10, 0x80, 0x80]
    let z := sliceWith r [0x10, 0x80]
    s.err = false ∧ s.stripActive = false ∧ firstFailure (upsampleChecks sized s.regs) = none ∧
      s.regs.upsampling.need = (s.regs.read .inLen).toNat ∧
      firstFailure (upsampleChecks sized z.regs) = none ∧ (z.regs.read .inLen).toNat + 1 = z.regs.upsampling.need ∧
      firstFailure (upsampleChecks sized Regs.reset) = some .width ∧ oneByte.stripActive = true := by
  decide +kernel

/-- One command of each kind that raises an error. -/
theorem witness_CommandsRaiseOnlyTheirErrors :
    (∀ i ∈ ([.stripBegin, .decode, .loadJpegTables] : List Instr), ∃ t e, exec i State.reset = .next t ∧
      t.latch = some e) ∧ State.reset.strip.term = none ∧
    ∃ t e, exec .upsampleYcbcr oneByte = .next t ∧ t.latch = some e := by
  refine ⟨?_, rfl, ⟨oneByte.raiseOther .stripActive, ⟨.stripActive, 0, 0⟩, next_of_isNext _ _ ?_, ?_⟩⟩
  · intro i hi
    simp only [List.mem_cons, List.not_mem_nil, or_false] at hi
    rcases hi with rfl | rfl | rfl
    · exact ⟨State.reset.raiseOther .noSlice, ⟨.noSlice, 0, 0⟩, next_of_isNext _ _ (by decide +kernel), by decide +kernel⟩
    · exact ⟨State.reset.raiseDecode .noStrip, ⟨.noStrip, 0, 0⟩, next_of_isNext _ _ (by decide +kernel), by decide +kernel⟩
    · exact ⟨State.reset.raiseOther .noSlice, ⟨.noSlice, 0, 0⟩, next_of_isNext _ _ (by decide +kernel), by decide +kernel⟩
  · decide +kernel
  · decide +kernel

/-- A state with one host access to make. -/
def accessing (a : HostAccess) : State := { State.reset with hostQueue := [a] }

/-- Every access can be the next one. -/
theorem witness_accessing (a : HostAccess) : (accessing a).focus = .host ∧ (accessing a).hostQueue = a :: [] :=
  ⟨rfl, rfl⟩

theorem witness_RegisterWriteStores :
    let a := HostAccess.writeReg .layout 0xFFFFFFFF
    (accessing a).focus = .host ∧ (accessing a).hostQueue = HostAccess.writeReg .layout 0xFFFFFFFF :: [] :=
  ⟨rfl, rfl⟩

theorem witness_StepRunsTheCommand :
    (accessing (HostAccess.command 4)).focus = .host ∧
    (accessing (HostAccess.command 4)).hostQueue = HostAccess.command 4 :: [] :=
  ⟨rfl, rfl⟩

/-- The last register offset, and the first byte of IN and of OUT. -/
theorem witness_ReadsHaveNoEffect :
    (let a := HostAccess.readReg 0xFFC;
      a.write = false ∧ a.admitted = true ∧ a.inSpace Config.params = true) ∧
    (let a : HostAccess := { space := .inBuf, write := false, width := 8, off := 0, data := 0 };
      a.write = false ∧ a.admitted = true ∧ a.inSpace Config.params = true) ∧
    (let a := HostAccess.readOut 0;
      a.write = false ∧ a.admitted = true ∧ a.inSpace Config.params = true) := by
  decide +kernel

theorem witness_InputLock :
    let s := accessing (HostAccess.writeIn 0 7)
    s.focus = .host ∧ s.hostQueue = HostAccess.writeIn 0 7 :: [] ∧ 0 < Config.params.maxInBytes ∧
      s.stripActive = false ∧ { s with stripActive := true, sliceActive := true }.stripActive = true :=
  ⟨rfl, rfl, Nat.succ_pos _, rfl, rfl⟩

/-- Each clause of OtherAccesses, where its range begins. -/
theorem witness_OtherAccesses :
    (let a : HostAccess := { space := .outBuf, write := true, width := 8, off := 0, data := 0 };
      a.admitted = true ∧ a.inSpace Config.params = true) ∧
    (let a : HostAccess := { space := .reg, write := true, width := 32, off := 4, data := 0 };
      a.admitted = true ∧ a.inSpace Config.params = true ∧ RegName.ofOffset? 4 = none) ∧
    (let a : HostAccess := { space := .reg, write := true, width := 32, off := 2, data := 0 };
      a.off % 4 ≠ 0) ∧
    (let a : HostAccess := { space := .reg, write := true, width := 32, off := 0x1000, data := 0 };
      a.admitted = true ∧ 0x1000 ≤ a.off) ∧
    (let a : HostAccess :=
        { space := .inBuf, write := true, width := 8, off := Config.params.maxInBytes, data := 0 };
      a.admitted = true ∧ Config.params.maxInBytes ≤ a.off) := by
  refine ⟨by decide +kernel, by decide +kernel, by decide, by decide, rfl, Nat.le_refl _⟩

/-- A state of the unit about to read `b`. -/
def atUnit (L : Latched) (c : CodecState) (b : List Byte) : State :=
  { withStrip (stripAt L c b) with focus := .unit }

def lzwFresh : LzwState := { old := false, nbits := 9, prev := none, dict := [] }
def faxAt (phase : FaxPhase) (col : Colour) : FaxState :=
  { phase := phase, ref := List.replicate 8 false, cur := [], col := col, a0 := 0, run := 0, run1 := 0, rows := 0 }
def cfg8 : Latched := { Latched.reset with codec := 2, width := 8, bpr := 1 }
def cfg8g4 : Latched := { Latched.reset with codec := 4, width := 8, bpr := 1 }

theorem witness_atUnit (L : Latched) (c : CodecState) (b : List Byte) :
    (atUnit L c b).focus = .unit ∧ (atUnit L c b).stripActive = true ∧ (atUnit L c b).strip.term = none ∧
      (atUnit L c b).strip.codec = c := ⟨rfl, rfl, rfl, rfl⟩

theorem witness_StepRunsTheSymbol :
    (∃ i st, fetch Config.params (stripAt Latched.reset .packBits [0xFF, 0x5A]) = .symbol i st) ∧
    lzwFresh.nbits ≤ (stripAt Latched.reset (.lzw lzwFresh) [0x80, 0x00]).remaining ∧
    decode (.lzw false 9 258 false) (peekBits false [0x80, 0x00] 9 0) = .found .lzwClear 9 ∧
    (stripAt Latched.reset .packBits [0x80]).bytes = [0x80] ∧
    decode (.mhRun false) (peekBits false [0x7A, 0x00] 13 0) = .found .mhWTerm2 4 := by
  refine ⟨⟨.pbRepeat 0x7F, (stripAt Latched.reset .packBits [0xFF, 0x5A]).skip 8, ?_⟩, ?_, ?_, ?_, ?_⟩ <;>
    decide +kernel

theorem witness_UnitSteps :
    let s := atUnit Latched.reset .packBits [0x80]
    s.strip.term = none ∧ s.focus = .unit ∧ s.stripActive = true := by
  decide

/-- One instruction of each format, at the ends of its operand's range where it has one. -/
theorem witness_DecodeReadsEncode :
    fits .cmd (.reservedBits 0xFFFFFFF 15) = true ∧ fits (.lzw false 12 4096 true) (.lzwDict 4095) = true ∧
    fits (.lzw true 9 258 true) (.lzwKwkwk 258) = true ∧ fits .packBits (.pbRepeat 1) = true ∧
    fits (.mhRun true) .mhBTerm63 = true ∧ fits .eol .faxEol = true ∧ fits .readMode (.readExt 0) = true ∧
    fits .tag (.g3Tag 0) = true ∧ fits .marker (.jpegRes 2) = true ∧ fits .stuff .jpegStuff = true ∧
    fits (.dcSymbol smallTable) (.jpegDcSymbol 4 15) = true ∧
    fits (.acSymbol smallTable 1) (.jpegAcSymbol 0x11 1) = true ∧ fits .logLuv (.logluvLiteral 127) = true ∧
    fits .zlib .zlibStream = true := by
  decide +kernel

theorem witness_UnitStepsEndOrConsume :
    firstFailure (stripChecks sized lzwRegs.latchAll) = none ∧
    firstFailure (stripChecks sized (faxRegs 4).latchAll) = none ∧
    firstFailure (stripChecks sized jpegRegs.latchAll) = none ∧
    (stripAt Latched.reset .packBits [0x80]).Wf ∧
    ∃ t, unitStep (withStrip (stripAt Latched.reset .packBits [0x80])) = .next t := by
  refine ⟨by decide +kernel, by decide +kernel, by decide +kernel, trivial,
    ⟨withStrip ((stripAt Latched.reset .packBits [0x80]).skip 8),
      next_of_isNext _ _ (by decide +kernel)⟩⟩

/-- The same strip in another state. -/
def latchedOneByte : State := { oneByte with latch := some ⟨.illegalCmd, 0, 0⟩, regs := Regs.reset }

theorem witness_StreamDependsOnTheStripOnly :
    oneByte.strip = latchedOneByte.strip ∧ oneByte ≠ latchedOneByte := by
  decide +kernel

/-- After the codes 65 and 66: 258 is the only entry, 259 the next. -/
def lzwTwo : LzwState :=
  { old := false, nbits := 9, prev := some 66, dict := [{ pre := 65, suffix := 66, length := 2, first := 65 }] }

theorem witness_Lzw :
    (withStrip (stripAt Latched.reset (.lzw lzwTwo) [])).atLzw lzwTwo ∧
    (withStrip (stripAt Latched.reset (.lzw lzwFresh) [])).atLzw lzwFresh ∧
    lzwFresh.prev = none ∧ lzwTwo.prev = some 66 ∧ 258 ≤ (258 : BitVec 12).toNat ∧
    (258 : BitVec 12).toNat < lzwTwo.nextFree ∧ (259 : BitVec 12).toNat = lzwTwo.nextFree := by
  refine ⟨⟨rfl, rfl⟩, ⟨rfl, rfl⟩, rfl, rfl, ?_, ?_, ?_⟩ <;> decide

theorem witness_LzwStrings : lzwTwo.Wf ∧ lzwTwo.names 255 ∧ lzwTwo.names 258 ∧ lzwTwo.nextFree < 4096 := by
  refine ⟨⟨by decide, by decide, Or.inr (by decide), ?_, ?_⟩, Or.inl (by decide), Or.inr (by decide), by decide⟩
  · intro i e h
    match i, h with
    | 0, h => cases h; decide
  · intro p h
    cases h
    exact Or.inl (by decide)

theorem witness_PackBitsRuns :
    (withStrip (stripAt Latched.reset .packBits [])).atPackBits ∧
    (withStrip (stripAt Latched.reset .packBits [])).strip.bytes = [] ∧
    (withStrip (stripAt Latched.reset .packBits [7])).atPackBits ∧
    (withStrip (stripAt Latched.reset .packBits [7])).strip.bytes = [7] ∧
    (withStrip (stripAt Latched.reset .packBits [7])).strip.bc % 8 = 0 ∧ (1 : BitVec 7) ≠ 0 := by
  refine ⟨⟨rfl, rfl⟩, ?_, ⟨rfl, rfl⟩, ?_, ?_, ?_⟩ <;> decide

/-- The stream 7, 0 and a byte after it, and the stream cut short. -/
theorem witness_ZlibStreamInflates :
    (let s := withStrip (stripAt Latched.reset .deflate []);
      s.strip.term = none ∧ s.strip.codec = .deflate ∧ s.strip.lin = []) ∧
    (inflate upToZero [7, 0, 9]).2 = true ∧ (inflate upToZero [7]).2 = false := by
  decide

theorem witness_PredictorUndoesDifferencing :
    let L := { Latched.reset with bps := 16, spp := 3 }
    L.bps.toNat ∈ [8, 16, 32] ∧ 1 ≤ L.stride ∧ ([1, 2, 3, 4, 5, 6, 7, 8] : List Byte).length % (L.bps.toNat / 8) = 0 := by
  decide

/-! #### Fax -/

def faxState (L : Latched) (f : FaxState) : State := withStrip (stripAt L (.fax f) [])

theorem witness_atFax (L : Latched) (f : FaxState) :
    (faxState L f).atFax f ∧ (faxState L f).strip.cfg = L := ⟨⟨rfl, rfl⟩, rfl⟩

theorem witness_MakeUpCodesAdd :
    (faxState cfg8 (faxAt .run1D .white)).atFax (faxAt .run1D .white) ∧
    (faxAt .run1D .white).inRun cfg8 = true ∧ (faxAt (.rowTest false) .black).inRun cfg8 = true ∧
    (faxAt .hRun2 .white).inRun cfg8g4 = true ∧
    (64, cw 5 0b11011, Instr.mhWMakeup64) ∈ mhWhiteMakeup ∧ (faxAt .run1D .white).runColour = .white ∧
    (1728, cw 13 0b0000001100101, Instr.mhBMakeup1728) ∈ mhBlackMakeup ∧ (faxAt .hRun2 .white).runColour = .black ∧
    (2560, cw 12 0b000000011111, Instr.mhExtMakeup2560) ∈ mhExtMakeup := by
  refine ⟨⟨rfl, rfl⟩, ?_⟩
  decide +kernel

theorem witness_Runs :
    (faxState cfg8 (faxAt .rowStart .white)).atFax (faxAt .rowStart .white) ∧
    (faxState cfg8 (faxAt .run1D .black)).atFax (faxAt .run1D .black) ∧
    (faxState cfg8g4 (faxAt .hRun1 .white)).atFax (faxAt .hRun1 .white) ∧
    (faxState cfg8g4 (faxAt .hRun2 .white)).atFax (faxAt .hRun2 .white) ∧
    cfg8.unit? ≠ some .g4 ∧ (0, cw 8 0b00110101, Instr.mhWTerm0) ∈ mhWhiteTerm ∧
    (63, cw 12 0b000001100111, Instr.mhBTerm63) ∈ mhBlackTerm ∧ (faxAt .hRun1 .white).runColour = .white ∧
    (faxAt .hRun2 .white).runColour = .black := by
  refine ⟨⟨rfl, rfl⟩, ⟨rfl, rfl⟩, ⟨rfl, rfl⟩, ⟨rfl, rfl⟩, ?_⟩
  decide +kernel

theorem witness_FaxRowEnds :
    (List.replicate 9 true).length = 9 ∧
    (faxAt .run1D .white).a0 < ((stripAt cfg8 (.fax (faxAt .run1D .white)) []).cfg.w : Int) ∧
    ((stripAt cfg8 (.fax (faxAt .run1D .white)) []).cfg.w : Int) ≤
      ({ faxAt .run1D .white with a0 := 8, cur := List.replicate 8 true } : FaxState).a0 := by
  decide

theorem witness_ReadModes :
    (faxState cfg8g4 (faxAt .mode .white)).atFax (faxAt .mode .white) ∧ modeHere cfg8g4 (faxAt .mode .white) = true ∧
    modeHere cfg8g4 (faxAt .rowStart .white) = true ∧ modeHere cfg8 (faxAt (.rowTest true) .white) = true := by
  refine ⟨⟨rfl, rfl⟩, ?_, ?_, ?_⟩ <;> decide

/-- Every phase of the clauses; `.rowStart` in Group 4 and in compression 2. -/
theorem witness_Group3Framing :
    (∀ p ∈ ([.seekEol, .tag, .rowTest true, .rowTest false, .run1D, .mode, .hRun1, .hRun2, .rowStart] : List FaxPhase),
      (faxState cfg8 (faxAt p .white)).atFax (faxAt p .white) ∧ (faxAt p .white).phase = p) ∧
    (faxState cfg8g4 (faxAt .rowStart .white)).atFax (faxAt .rowStart .white) ∧
    cfg8g4.unit? = some .g4 ∧ cfg8.unit? = some .mh := by
  refine ⟨fun p _ => ⟨⟨rfl, rfl⟩, rfl⟩, ⟨rfl, rfl⟩, ?_, ?_⟩ <;> decide

theorem witness_FaxRowsKept :
    1 ≤ cfg8.w ∧ (stripAt cfg8 (.fax (faxAt .run1D .white)) [0x7A, 0x00]).FaxWf ∧
    ∃ t, unitStep (withStrip (stripAt cfg8 (.fax (faxAt .run1D .white)) [0x7A, 0x00])) = .next t := by
  refine ⟨by decide, ?_, ?_⟩
  · intro f h
    cases h
    exact ⟨⟨by decide, by decide, by decide, by decide, by decide⟩, by decide⟩
  · refine ⟨withStrip { stripAt cfg8 (.fax { faxAt .run1D .black with cur := [false, false], a0 := 2 }) [0x7A, 0x00] with
      bc := 4 }, next_of_isNext _ _ (by decide +kernel)⟩

/-! #### LogLuv -/

def logL : Latched := { Latched.reset with codec := 34676, photometric := 32844, width := 2, bpr := 2 }

theorem witness_LogLuvRuns :
    (withStrip (stripAt logL (.logLuv LogLuvState.init) [])).atLogLuv LogLuvState.init ∧
    (withStrip (stripAt logL (.logLuv LogLuvState.init) [])).strip.bytes = [] ∧
    (withStrip (stripAt logL (.logLuv LogLuvState.init) [0x3F])).strip.bytes = [0x3F] := by
  refine ⟨⟨rfl, rfl⟩, ?_, ?_⟩ <;> decide

/-- A table of rows of 100 codes each. -/
def rowsOf100 : Params :=
  { Config.params with
    logluv24Rle := false
    uvRow := fun i => { ustart := 0, nus := 100, ncum := 100 * i } }

theorem witness_LogLuv24RowsAndSearch :
    rawRows rowsOf100 { Latched.reset with codec := 34677, width := 1, bpr := 3 } = true ∧
    (∀ i j, i < j → j < 163 → (rowsOf100.uvRow i).ncum < (rowsOf100.uvRow j).ncum) ∧
    (rowsOf100.uvRow 0).ncum ≤ 0 := by
  refine ⟨by decide, ?_, by decide⟩
  intro i j h _
  show 100 * i < 100 * j
  omega

/-! #### JPEG -/

def jpegState (j : JpegState) (b : List Byte) : State :=
  withStrip (stripAt jpegRegs.latchAll (.jpeg j) b)

def restartAt : JpegState :=
  { jpegAt .restart with tables := { (jpegAt .restart).tables with ri := 1 }, mcu := 1 }

theorem witness_JpegMarkersByPhase :
    (jpegState (jpegAt .soi) []).atJpeg (jpegAt .soi) ∧ (jpegAt .soi).phase = .soi ∧
    (jpegState (jpegAt .entropy) []).atJpeg (jpegAt .entropy) ∧ (jpegAt .entropy).phase = .entropy ∧
    (jpegState restartAt []).atJpeg restartAt ∧ restartAt.phase = .restart ∧
    (0 : BitVec 3).toNat = (restartAt.mcu / restartAt.tables.ri.toNat - 1) % 8 ∧
    markerCode .jpegEoi = some 0xD9 ∧ markerCode (.jpegRstm 1) = some 0xD1 ∧ Instr.jpegEoi ≠ .jpegSoi := by
  refine ⟨⟨rfl, rfl⟩, rfl, ⟨rfl, rfl⟩, rfl, ⟨rfl, rfl⟩, rfl, ?_, ?_, ?_, ?_⟩ <;> decide

theorem witness_JpegMarkersInHeader :
    (jpegState (jpegAt .header) []).atJpeg (jpegAt .header) ∧ (jpegAt .header).phase = .header ∧
    (jpegAt .header).tablesOnly = false ∧ (jpegAt .header).frame ≠ none ∧
    (jpegState { JpegState.init true JpegTables.reset with phase := .header } []).atJpeg
      { JpegState.init true JpegTables.reset with phase := .header } ∧
    (JpegState.init true JpegTables.reset).tablesOnly = true ∧ (JpegState.init true JpegTables.reset).frame = none := by
  refine ⟨⟨rfl, rfl⟩, rfl, rfl, ?_, ⟨rfl, rfl⟩, rfl, rfl⟩
  decide

theorem witness_JpegMarkersAfterScan :
    (jpegState (jpegAt .tail) []).atJpeg (jpegAt .tail) ∧ (jpegAt .tail).phase = .tail ∧
    markerCode .jpegTem = some 1 := by
  refine ⟨⟨rfl, rfl⟩, rfl, ?_⟩
  decide

/-- A segment of length 1, one that is cut off, one of length 2 and the RI = 8 of R319. -/
theorem witness_JpegSegments :
    (jpegState (jpegAt .header) [0x00]).strip.bytes.length < 2 ∧
    (jpegState (jpegAt .header) [0x00, 0x01]).strip.bytes = 0x00 :: 0x01 :: [] ∧ be16 0x00 0x01 < 2 ∧
    2 ≤ be16 0x00 0x03 ∧ ([] : List Byte).length + 2 < be16 0x00 0x03 ∧
    (jpegState (jpegAt .tail) [0x00, 0x02]).strip.bytes = 0x00 :: 0x02 :: ([] ++ []) ∧
    be16 0x00 0x02 = ([] : List Byte).length + 2 ∧
    (jpegState (jpegAt .header) [0x00, 0x04, 0x00, 0x08]).strip.bytes = 0x00 :: 0x04 :: ([0x00, 0x08] ++ []) ∧
    be16 0x00 0x04 = ([0x00, 0x08] : List Byte).length + 2 := by
  decide

theorem witness_DqtStoresNaturalOrder :
    3 < 4 ∧ (List.replicate 64 (1 : Byte)).length = 64 ∧ (List.replicate 128 (1 : Byte)).length = 128 := by
  decide

/-- A header state with no frame read yet. -/
def noFrame : JpegState := { jpegAt .header with frame := none }

theorem witness_JpegFrameHeader :
    let body : List Byte := [0x08, 0x00, 0x08, 0x00, 0x08, 0x01, 0x01, 0x11, 0x00]
    let s := jpegState noFrame (0x00 :: 0x0B :: body)
    s.atJpeg noFrame ∧ noFrame.phase = .header ∧ noFrame.tablesOnly = false ∧ noFrame.frame = none ∧
    s.strip.bytes = 0x00 :: 0x0B :: (body ++ []) ∧ be16 0x00 0x0B = body.length + 2 ∧
    sof s.strip.cfg body = .ok oneBlockFrame ∧
    sof s.strip.cfg (0x0C :: body.tail) = .error .jpegPrecision := by
  refine ⟨⟨rfl, rfl⟩, rfl, rfl, rfl, ?_, ?_, ?_, ?_⟩ <;> decide +kernel

/-- The conditions of a frame header that is stored: one component; and three whose blocks are 10 an MCU. -/
theorem witness_JpegFrameHeader_fields :
    let meets (L : Latched) (recs : List Byte) : Bool :=
      let n := recs.length / 3
      let field (i k : Nat) : Nat := (recs.getD (3 * i + k) 0).toNat
      decide (1 ≤ n ∧ recs.length = 3 * n ∧
        (∀ i < n, 1 ≤ field i 1 / 16 ∧ field i 1 / 16 ≤ 4 ∧ 1 ≤ field i 1 % 16 ∧ field i 1 % 16 ≤ 4 ∧ field i 2 ≤ 3) ∧
        (∀ i < n, ∀ k < i, field k 0 ≠ field i 0) ∧
        (1 < n → ((List.range n).map fun i => (field i 1 / 16) * (field i 1 % 16)).sum ≤ 10) ∧
        1 ≤ be16 0 8 ∧ be16 0 8 = L.width.toNat ∧ n = L.nc)
    meets jpegRegs.latchAll [0x01, 0x11, 0x00] = true ∧
    meets { jpegRegs.latchAll with spp := 3 } [0x01, 0x42, 0x00, 0x02, 0x11, 0x03, 0x03, 0x11, 0x01] = true := by
  decide +kernel

theorem witness_JpegScanHeader :
    let body : List Byte := [0x01, 0x01, 0x00, 0x00, 0x3F, 0x00]
    let j := jpegAt .header
    let s := jpegState j (0x00 :: 0x08 :: body)
    s.atJpeg j ∧ j.phase = .header ∧ j.tablesOnly = false ∧ j.frame = some oneBlockFrame ∧ oneBlockFrame.total = 1 ∧
    s.strip.bytes = 0x00 :: 0x08 :: (body ++ []) ∧ be16 0x00 0x08 = body.length + 2 ∧
    sos j.tables oneBlockFrame body = .ok [⟨0, 0⟩] ∧
    sos JpegTables.reset oneBlockFrame body = .error .jpegNoTable ∧
    body = BitVec.ofNat 8 oneBlockFrame.comps.length :: ([0x01, 0x00] ++ [0, 63, 0]) ∧
    (oneBlockFrame.comps.map (·.id)) = [1] ∧ (j.tables.dc.get 0).isSome = true ∧ (j.tables.ac.get 0).isSome = true ∧
    (∀ c ∈ oneBlockFrame.comps, (j.tables.q.get c.tq).isSome = true) := by
  refine ⟨⟨rfl, rfl⟩, rfl, rfl, rfl, ?_, ?_, ?_, ?_, ?_, ?_, ?_, ?_, ?_, ?_⟩ <;> decide +kernel

/-- A block with `n` coefficients read. -/
def inBlock (n : Nat) : JpegState := { jpegAt .entropy with zz := List.replicate n 0 }

/-- The boundary values of the clauses: `k` at 1, 47, 48, 49 and 63. -/
theorem witness_JpegEntropySymbols :
    (jpegState (inBlock 0) []).atJpeg (inBlock 0) ∧ (inBlock 0).zz = [] ∧ 11 < (12 : Byte).toNat ∧
    (11 : Byte).toNat ≤ 11 ∧
    (jpegState (inBlock 63) []).atJpeg (inBlock 63) ∧ 1 ≤ (inBlock 1).zz.length ∧ (inBlock 63).zz.length ≤ 63 ∧
    48 < (inBlock 49).zz.length ∧ (inBlock 47).zz.length < 48 ∧ (inBlock 48).zz.length = 48 ∧
    63 < (inBlock 63).zz.length + 1 ∧ (inBlock 62).zz.length + 0 < 63 ∧ (inBlock 62).zz.length + 1 = 63 := by
  refine ⟨⟨rfl, rfl⟩, rfl, ?_, ?_, ⟨rfl, rfl⟩, ?_, ?_, ?_, ?_, ?_, ?_, ?_, ?_⟩ <;> decide

/-- A frame of two MCUs a row and two rows, one block each; and one of an MCU of six blocks. -/
def fourMcus : JpegState :=
  { jpegAt .entropy with frame := some { y := 16, x := 16, comps := [{ id := 1, h := 1, v := 1, tq := 0 }] } }
def sixBlocks : JpegState :=
  { jpegAt .entropy with
    frame := some
      { y := 16, x := 16
        comps := [{ id := 1, h := 2, v := 2, tq := 0 }, { id := 2, h := 1, v := 1, tq := 0 },
          { id := 3, h := 1, v := 1, tq := 0 }] } }

theorem witness_JpegBlockEnds :
    sixBlocks.block + 1 < sixBlocks.frameD.blockComps.length ∧
    fourMcus.frameD.blockComps.length ≤ fourMcus.block + 1 ∧
    fourMcus.frameD.total = 4 ∧ fourMcus.frameD.mcusPerRow = 2 ∧ fourMcus.tables.ri.toNat = 0 ∧
    (1 : Nat) % fourMcus.frameD.mcusPerRow ≠ 0 ∧ (2 : Nat) % fourMcus.frameD.mcusPerRow = 0 ∧
    restartAt.tables.ri.toNat = 1 := by
  decide +kernel

theorem witness_DcOnlyBlock :
    (List.replicate 64 (8 : BitVec 16)).length = 64 ∧
    (-17 : Int) * ((List.replicate 64 (8 : BitVec 16)).getD 0 0).toNat = 8 * (-17) := by
  decide

theorem witness_HuffmanDecodesItsCodes :
    let bits := [0, 2, 1, 0, 0, 0, 0, 0, 0, 0, 0, 0, 0, 0, 0, 0]
    let hv : List Byte := [1, 2, 3]
    bits.length = 16 ∧ hv.length = bits.sum ∧ (buildHuff bits hv).isSome = true ∧
    ((huffGen bits 1 0).bind (·[2]?)) = some (3, 4) := by
  decide +kernel

theorem witness_ExtendValues :
    1 ≤ 1 ∧ (0 : Nat) < 2 ^ 1 ∧ 2 ^ (1 - 1) ≤ (1 : Nat) ∧ (0 : Nat) < 2 ^ (1 - 1) ∧ extend 0 2 ≠ extend 1 2 := by
  decide

/-- A slice just begun, and its step. -/
theorem witness_JpegTablesKept :
    State.reset.beginSlice.TablesWf ∧ step State.reset.beginSlice = .next State.reset.beginSlice := by
  refine ⟨⟨⟨?_, ?_, ?_⟩, fun j h => nomatch h⟩, rfl⟩ <;> intro i hi l h <;> revert h <;>
    match i, hi with
    | 0, _ | 1, _ | 2, _ | 3, _ => exact fun h => nomatch h

/-! #### YCbCr and the invariant -/

theorem witness_ChromaUpsampling :
    let one : Upsampling := { w := 1, h := 1, hs := 1, vs := 1, posn := 2, raw := true }
    let u : Upsampling := { w := 4, h := 2, hs := 2, vs := 2, posn := 1, raw := true }
    let b : List Byte := List.replicate 12 255
    1 ≤ one.w ∧ 1 ≤ one.h ∧ u.w % 2 = 0 ∧ u.h % 2 = 0 ∧ u.nbx = 2 ∧ u.nby = 1 ∧
    (∀ bx < 2, ∀ by' < 1, 255 ≤ u.chroma b 0 bx by' ∧ u.chroma b 0 bx by' ≤ 255) := by
  decide +kernel

/-- A slice just begun: a state other than reset that has the invariant, and its step. -/
theorem witness_InvariantKept :
    State.reset.beginSlice.Inv ∧ step State.reset.beginSlice = .next State.reset.beginSlice := by
  refine ⟨⟨?_, rfl, rfl, Nat.zero_le _, ?_, ?_, ?_⟩, rfl⟩
  · intro n
    cases n <;> rfl
  · intro h
    cases h
  · intro h
    cases h
  · intro h
    cases h

end Sys2Proof.Tests
end

/-! Proof of O5: the reserved command words of R82 and what they raise (R109, R424, R425). -/

namespace Sys2Proof

/-! ### The reserved words of the decoder -/

/-- Bits [31:4] of a command word are clear exactly when the word is below 16. -/
theorem Word.reservedField_eq_zero_iff (w : Word) : w.extractLsb' 4 28 = 0 ↔ w.toNat < 16 := by
  have hw : w.toNat < 2 ^ 32 := w.isLt
  rw [BitVec.toNat_eq, BitVec.extractLsb'_toNat, Nat.shiftRight_eq_div_pow]
  simp only [BitVec.ofNat_eq_ofNat, BitVec.toNat_ofNat]
  omega

/-- Below 16 the opcode field is the whole word. -/
theorem Word.opcodeField_toNat {w : Word} (h : w.toNat < 16) : (w.extractLsb' 0 4).toNat = w.toNat := by
  rw [BitVec.extractLsb'_toNat, Nat.shiftRight_zero, Nat.mod_eq_of_lt h]

/-- A reserved bit decides alone: the opcode is kept and not looked at (R82). -/
theorem decodeCmd_of_sixteen_le {w : Word} (h : 16 ≤ w.toNat) :
    decodeCmd w = .reservedBits (w.extractLsb' 4 28) (w.extractLsb' 0 4) := by
  have hr : w.extractLsb' 4 28 ≠ 0 := mt (Word.reservedField_eq_zero_iff w).mp (Nat.not_lt.mpr h)
  unfold decodeCmd
  rw [if_pos hr]

/-- With no reserved bit, opcodes 8 to 15 name no command (R82). -/
theorem decodeCmd_of_eight_le {w : Word} (h8 : 8 ≤ w.toNat) (h16 : w.toNat < 16) :
    decodeCmd w = .reservedOpc (w.extractLsb' 0 3) := by
  have hr : ¬ w.extractLsb' 4 28 ≠ 0 := not_not_intro ((Word.reservedField_eq_zero_iff w).mpr h16)
  unfold decodeCmd
  rw [if_neg hr, Word.opcodeField_toNat h16]
  split
  case h_9 => rfl
  all_goals omega

end Sys2Proof

namespace Sys2Proof.Machine

open Sys2Proof Host

/-! ### Reading the latch -/

theorem State.latch_eq_none_of_err_eq_false {s : State} (h : s.err = false) : s.latch = none := by
  simpa [State.err] using h

theorem State.err_of_latch {s : State} {e : ErrorLatch} (h : s.latch = some e) : s.err = true := by
  simp [State.err, h]

/-- ERR_INFO holds CLASS and KIND of the latched error (R26). -/
theorem State.errInfo_of_latch {s : State} {k : ErrKind} {row strip : Word} (h : s.latch = some ⟨k, row, strip⟩) :
    s.errInfo = (0#16 ++ k.code ++ k.cls : BitVec 32) := by
  unfold State.errInfo
  rw [h]

/-! ### A command that only raises -/

/-- A command whose one effect is an error that is not of DECODE: the latch entry of R424 with ERR_ROW = 0 and
ERR_STRIP = STRIP_INDEX (R111), or nothing while an error is latched (R425). -/
theorem State.unlessLatched_raiseOther (s : State) (k : ErrKind) :
    (s.unlessLatched fun s => s.raiseOther k) =
      if s.err then s
      else { s with latch := some ⟨k, 0, s.regs.read .stripIndex⟩, stripActive := false, outValid := false } := by
  cases h : s.err with
  | true => rw [State.unlessLatched_of_err h, if_pos rfl]
  | false =>
    rw [State.unlessLatched_of_not_err h, if_neg Bool.false_ne_true]
    exact State.raise_of_none (State.latch_eq_none_of_err_eq_false h) k 0 _

theorem exec_reservedOpc (low : BitVec 3) (s : State) :
    exec (.reservedOpc low) s = .next (s.unlessLatched fun s => s.raiseOther .illegalCmd) := rfl

theorem exec_reservedBits (r : BitVec 28) (o : BitVec 4) (s : State) :
    exec (.reservedBits r o) s = .next (s.unlessLatched fun s => s.raiseOther .reservedBits) := rfl

/-- Settles O5: the two ranges of reserved words by the decoder, their effect by the latch entry of R424. -/
theorem reservedWordsRaise : Obligations.ReservedWordsRaise := by
  refine ⟨fun w => ⟨fun h => ⟨_, _, decodeCmd_of_sixteen_le h⟩,
    fun h8 h16 => ⟨_, decodeCmd_of_eight_le h8 h16⟩⟩, fun s => ?_⟩
  intro fails
  have latch_fails (k : ErrKind) : (fails k).latch = some ⟨k, 0, s.regs.read .stripIndex⟩ := rfl
  refine ⟨fun low => ?illegal, fun r o => ?reserved, ?infoIllegal, ?infoReserved,
    State.err_of_latch (latch_fails _), State.err_of_latch (latch_fails _)⟩
  case illegal => rw [exec_reservedOpc, State.unlessLatched_raiseOther]
  case reserved => rw [exec_reservedBits, State.unlessLatched_raiseOther]
  case infoIllegal => rw [State.errInfo_of_latch (latch_fails _)]; decide
  case infoReserved => rw [State.errInfo_of_latch (latch_fails _)]; decide

end Sys2Proof.Machine

/-! Proofs of O1, O3 and O4: NOP (R101), SLICE_BEGIN (R103) and STRIP_END (R108). -/

namespace Sys2Proof.Machine

open Sys2Proof Host

/-! ### Reading the status and error registers while no error is latched -/

theorem State.err_of_latch_eq_none {s : State} (h : s.latch = none) : s.err = false := by
  simp [State.err, h]

theorem State.errInfo_of_latch_eq_none {s : State} (h : s.latch = none) : s.errInfo = 0 := by
  unfold State.errInfo
  rw [h]

theorem State.errRow_of_latch_eq_none {s : State} (h : s.latch = none) : s.errRow = 0 := by
  unfold State.errRow
  rw [h]

theorem State.errStrip_of_latch_eq_none {s : State} (h : s.latch = none) : s.errStrip = 0 := by
  unfold State.errStrip
  rw [h]

/-- After SLICE_BEGIN only STATUS bit 1, SLICE_ACTIVE, is set (R25, R103). -/
theorem State.status_beginSlice (s : State) : s.beginSlice.status = 0x00000002 := by
  have herr : s.beginSlice.err = false := State.err_of_latch_eq_none s.beginSlice_latch
  unfold State.status
  rw [herr, State.beginSlice_sliceActive, State.beginSlice_stripActive, State.beginSlice_outValid,
    State.beginSlice_tablesLoaded, State.beginSlice_lzwOld]
  decide

/-! ### The commands -/

theorem exec_nop (s : State) : exec .nop s = .next s := rfl

theorem exec_sliceBegin (s : State) : exec .sliceBegin s = .next s.beginSlice := rfl

theorem exec_stripEnd (s : State) : exec .stripEnd s = .next (s.unlessLatched State.dropStrip) := rfl

/-- Settles O1: NOP's arm answers the state it was given, whatever is latched (R101). -/
theorem nopChangesNothing : Obligations.NopChangesNothing :=
  fun s => exec_nop s

/-- Settles O3: SLICE_BEGIN does not pass `State.unlessLatched`, so its one outcome is `State.beginSlice`; the
registers are then read off the cleared latch and the cleared flags. -/
theorem sliceBeginStartsASlice : Obligations.SliceBeginStartsASlice := by
  refine fun s => ⟨exec_sliceBegin s, fun t ht => ?registers⟩
  case registers =>
    rw [exec_sliceBegin] at ht
    cases ht
    have hlatch : s.beginSlice.latch = none := s.beginSlice_latch
    exact ⟨s.status_beginSlice, State.errInfo_of_latch_eq_none hlatch, State.errRow_of_latch_eq_none hlatch,
      State.errStrip_of_latch_eq_none hlatch⟩

/-- Settles O4: with ERR = 0 step 3 of R100 admits the command, and its effect is `State.dropStrip`. -/
theorem stripEndEndsTheStrip : Obligations.StripEndEndsTheStrip := by
  intro s hadmitted
  rw [exec_stripEnd, State.unlessLatched_of_not_err hadmitted]
  rfl

end Sys2Proof.Machine

/-! Proof of O33: predictor reconstruction undoes horizontal differencing (spec/42_lzw.md R171 to R174).

A row of bytes is read as samples, the samples are accumulated or differenced, and the result is written back.
Reading and writing are inverse to each other on whole rows and on samples that fit their bytes, and on samples
accumulation is inverse to differencing. -/

namespace Sys2Proof.Machine

open Sys2Proof

/-! ### The bytes of one sample (R172) -/

theorem sampleOf_big (b : List Byte) : sampleOf true b = sampleOf false b.reverse := by
  simp [sampleOf]

theorem sampleBytes_big (n v : Nat) : sampleBytes true n v = (sampleBytes false n v).reverse := rfl

@[simp] theorem sampleBytes_length (mm : Bool) (n v : Nat) : (sampleBytes mm n v).length = n := by
  cases mm <;> simp [sampleBytes]

@[simp] theorem sampleOf_little_nil : sampleOf false [] = 0 := rfl

theorem sampleOf_little_cons (x : Byte) (b : List Byte) :
    sampleOf false (x :: b) = 256 * sampleOf false b + x.toNat := by
  simp [sampleOf]

theorem sampleBytes_little_zero (v : Nat) : sampleBytes false 0 v = [] := rfl

theorem sampleBytes_little_succ (n v : Nat) :
    sampleBytes false (n + 1) v = BitVec.ofNat 8 v :: sampleBytes false n (v / 256) := by
  simp [sampleBytes, List.range_succ_eq_map, Nat.pow_succ', Nat.div_div_eq_div_mul]

theorem sampleOf_little_lt (b : List Byte) : sampleOf false b < 256 ^ b.length := by
  induction b with
  | nil => simp
  | cons x b ih =>
    have hx : x.toNat < 256 := x.isLt
    rw [sampleOf_little_cons, List.length_cons, Nat.pow_succ]
    omega

theorem sampleOf_lt (mm : Bool) (b : List Byte) : sampleOf mm b < 256 ^ b.length := by
  cases mm with
  | false => exact sampleOf_little_lt b
  | true => simpa [sampleOf_big] using sampleOf_little_lt b.reverse

theorem sampleOf_sampleBytes_little (n : Nat) :
    ∀ v < 256 ^ n, sampleOf false (sampleBytes false n v) = v := by
  induction n with
  | zero => simp [sampleBytes_little_zero]
  | succ n ih =>
    intro v hv
    have hquot : v / 256 < 256 ^ n := Nat.div_lt_of_lt_mul (by rwa [← Nat.pow_succ'])
    rw [sampleBytes_little_succ, sampleOf_little_cons, ih _ hquot, BitVec.toNat_ofNat]
    omega

theorem sampleOf_sampleBytes (mm : Bool) {n v : Nat} (hv : v < 256 ^ n) :
    sampleOf mm (sampleBytes mm n v) = v := by
  cases mm with
  | false => exact sampleOf_sampleBytes_little n v hv
  | true => rw [sampleOf_big, sampleBytes_big, List.reverse_reverse, sampleOf_sampleBytes_little n v hv]

theorem sampleBytes_sampleOf_little (b : List Byte) : sampleBytes false b.length (sampleOf false b) = b := by
  induction b with
  | nil => rfl
  | cons x b ih =>
    have hx : x.toNat < 256 := x.isLt
    have hlow : BitVec.ofNat 8 (256 * sampleOf false b + x.toNat) = x := by
      apply BitVec.eq_of_toNat_eq
      rw [BitVec.toNat_ofNat]
      omega
    have hquot : (256 * sampleOf false b + x.toNat) / 256 = sampleOf false b := by omega
    rw [sampleOf_little_cons, List.length_cons, sampleBytes_little_succ, hlow, hquot, ih]

theorem sampleBytes_sampleOf (mm : Bool) (b : List Byte) : sampleBytes mm b.length (sampleOf mm b) = b := by
  cases mm with
  | false => exact sampleBytes_sampleOf_little b
  | true =>
    rw [sampleOf_big, sampleBytes_big, ← List.length_reverse, sampleBytes_sampleOf_little, List.reverse_reverse]

/-! ### The samples of a row (R172) -/

@[simp] theorem groups_nil (n : Nat) : groups n [] = [] := by
  simp [groups, groupsAux]

theorem groups_append {n : Nat} (hn : 0 < n) {c : List Byte} (hc : c.length = n) (l : List Byte) :
    groups n (c ++ l) = c :: groups n l := by
  have hcount : (c ++ l).length / n = l.length / n + 1 := by
    rw [List.length_append, hc, Nat.add_comm, Nat.add_div_right _ hn]
  have hfirst : ¬(c ++ l).length < n := by rw [List.length_append]; omega
  rw [groups, if_neg hn.ne', hcount, groupsAux, if_neg hfirst, List.take_left' hc, List.drop_left' hc, groups,
    if_neg hn.ne']

/-- The samples of `n` bytes that a row holds, in order. -/
def readSamples (mm : Bool) (n : Nat) (row : List Byte) : List Nat :=
  (groups n row).map (sampleOf mm)

/-- The row that holds the given samples of `n` bytes. -/
def writeSamples (mm : Bool) (n : Nat) (xs : List Nat) : List Byte :=
  (xs.map (sampleBytes mm n)).flatten

theorem predictRow_eq (L : Latched) (row : List Byte) :
    predictRow L row = writeSamples L.mm (L.bps.toNat / 8)
      (accumulate L.bps.toNat L.stride [] (readSamples L.mm (L.bps.toNat / 8) row)) := rfl

theorem differenceRow_eq (L : Latched) (row : List Byte) :
    differenceRow L row = writeSamples L.mm (L.bps.toNat / 8)
      (difference L.bps.toNat L.stride [] (readSamples L.mm (L.bps.toNat / 8) row)) := rfl

@[simp] theorem readSamples_nil (mm : Bool) (n : Nat) : readSamples mm n [] = [] := by
  simp [readSamples]

@[simp] theorem writeSamples_nil (mm : Bool) (n : Nat) : writeSamples mm n [] = [] := rfl

theorem readSamples_append (mm : Bool) {n : Nat} (hn : 0 < n) {c : List Byte} (hc : c.length = n)
    (l : List Byte) : readSamples mm n (c ++ l) = sampleOf mm c :: readSamples mm n l := by
  rw [readSamples, groups_append hn hc, List.map_cons, readSamples]

theorem writeSamples_cons (mm : Bool) (n x : Nat) (xs : List Nat) :
    writeSamples mm n (x :: xs) = sampleBytes mm n x ++ writeSamples mm n xs := rfl

theorem readSamples_writeSamples (mm : Bool) {n : Nat} (hn : 0 < n) {xs : List Nat}
    (hxs : ∀ x ∈ xs, x < 256 ^ n) : readSamples mm n (writeSamples mm n xs) = xs := by
  induction xs with
  | nil => simp
  | cons x xs ih =>
    obtain ⟨hx, hxs⟩ := List.forall_mem_cons.mp hxs
    rw [writeSamples_cons, readSamples_append mm hn (sampleBytes_length mm n x), sampleOf_sampleBytes mm hx, ih hxs]

/-- A property of byte rows that holds of the empty row and survives one more sample in front holds of every
row of whole samples. -/
theorem wholeRow_induction {n : Nat} {motive : List Byte → Prop} (nil : motive [])
    (sample : ∀ c l, c.length = n → motive l → motive (c ++ l)) {row : List Byte} (hrow : n ∣ row.length) :
    motive row := by
  obtain ⟨k, hk⟩ := hrow
  induction k generalizing row with
  | zero => rwa [List.length_eq_zero_iff.mp hk]
  | succ k ih =>
    have hlen : row.length = n * k + n := hk
    rw [← List.take_append_drop n row]
    refine sample _ _ ?_ (ih ?_)
    · rw [List.length_take]; omega
    · rw [List.length_drop]; omega

theorem writeSamples_readSamples (mm : Bool) {n : Nat} (hn : 0 < n) {row : List Byte} (hrow : n ∣ row.length) :
    writeSamples mm n (readSamples mm n row) = row := by
  refine wholeRow_induction (motive := fun row => writeSamples mm n (readSamples mm n row) = row) ?nil ?sample hrow
  case nil => simp
  case sample =>
    intro c l hc ih
    subst hc
    rw [readSamples_append mm hn rfl, writeSamples_cons, sampleBytes_sampleOf, ih]

theorem readSamples_lt (mm : Bool) {n : Nat} (hn : 0 < n) {row : List Byte} (hrow : n ∣ row.length) :
    ∀ x ∈ readSamples mm n row, x < 256 ^ n := by
  refine wholeRow_induction (motive := fun row => ∀ x ∈ readSamples mm n row, x < 256 ^ n) ?nil ?sample hrow
  case nil => simp
  case sample =>
    intro c l hc ih
    rw [readSamples_append mm hn hc, List.forall_mem_cons]
    exact ⟨hc ▸ sampleOf_lt mm c, ih⟩

/-! ### Differencing and accumulation (R173, R174) -/

/-- Adding back modulo `m` what was subtracted modulo `m`. -/
theorem sub_mod_add_mod {m x d : Nat} (hx : x < m) (hd : d < m) : ((x + m - d) % m + d) % m = x := by
  rw [Nat.mod_add_mod, show x + m - d + d = x + m by omega, Nat.add_mod_right, Nat.mod_eq_of_lt hx]

theorem getD_zero_lt {m : Nat} (hm : 0 < m) {xs : List Nat} (hxs : ∀ x ∈ xs, x < m) (i : Nat) :
    xs.getD i 0 < m := by
  rcases lt_or_ge i xs.length with hi | hi
  · rw [List.getD_eq_getElem _ _ hi]
    exact hxs _ (List.getElem_mem hi)
  · rwa [List.getD_eq_default _ _ hi]

theorem difference_lt (bps st : Nat) {xs : List Nat} (hxs : ∀ x ∈ xs, x < 2 ^ bps) (done : List Nat) :
    ∀ y ∈ difference bps st done xs, y < 2 ^ bps := by
  induction xs generalizing done with
  | nil => simp [difference]
  | cons x xs ih =>
    obtain ⟨hx, hxs⟩ := List.forall_mem_cons.mp hxs
    rw [difference, List.forall_mem_cons]
    refine ⟨?_, ih hxs _⟩
    split
    · exact hx
    · exact Nat.mod_lt _ (Nat.two_pow_pos bps)

/-- R174 on samples, after the samples of `done`. The two recursions keep the same `done`: what the encoder has
passed is what the decoder has reconstructed. -/
theorem accumulate_difference (bps st : Nat) {xs done : List Nat} (hxs : ∀ x ∈ xs, x < 2 ^ bps)
    (hdone : ∀ x ∈ done, x < 2 ^ bps) :
    accumulate bps st done (difference bps st done xs) = done ++ xs := by
  induction xs generalizing done with
  | nil => simp [difference, accumulate]
  | cons x xs ih =>
    obtain ⟨hx, hxs⟩ := List.forall_mem_cons.mp hxs
    have hearlier : done.getD (done.length - st) 0 < 2 ^ bps := getD_zero_lt (Nat.two_pow_pos bps) hdone _
    have hdone' : ∀ y ∈ done ++ [x], y < 2 ^ bps := by
      simpa [or_imp, forall_and] using ⟨hdone, hx⟩
    have hrestored : accumulate bps st done (difference bps st done (x :: xs)) =
        accumulate bps st (done ++ [x]) (difference bps st (done ++ [x]) xs) := by
      rw [difference, accumulate]
      split
      · rfl
      · rw [sub_mod_add_mod hx hearlier]
    rw [hrestored, ih hxs hdone', List.append_assoc, List.singleton_append]

/-- Settles O33: the differenced samples fit their bytes, so the decoder reads back exactly what the encoder
wrote, and `accumulate_difference` restores the samples of the row. -/
theorem predictorUndoesDifferencing : Obligations.PredictorUndoesDifferencing := by
  intro L row hbps _ hrow
  have hn : 0 < L.bps.toNat / 8 := by simp at hbps; omega
  have hmod : 2 ^ L.bps.toNat = 256 ^ (L.bps.toNat / 8) := by
    rw [show 256 = 2 ^ 8 from rfl, ← Nat.pow_mul]
    congr 1
    simp at hbps
    omega
  have hwhole : L.bps.toNat / 8 ∣ row.length := Nat.dvd_of_mod_eq_zero hrow
  have hsamples : ∀ x ∈ readSamples L.mm (L.bps.toNat / 8) row, x < 2 ^ L.bps.toNat :=
    hmod ▸ readSamples_lt L.mm hn hwhole
  have hdiffs := difference_lt L.bps.toNat L.stride hsamples []
  rw [predictRow_eq, differenceRow_eq, readSamples_writeSamples L.mm hn (hmod ▸ hdiffs),
    accumulate_difference _ _ hsamples (by simp), List.nil_append, writeSamples_readSamples L.mm hn hwhole]

end Sys2Proof.Machine

/-! Proof of O31: the PackBits runs (spec/45_packbits.md R262, R263, R265).

A control byte is read through the general bit decoder, so the layer below says that the eight bits at a byte
boundary are the code word of the byte there, and that the code word of a number reads back as the number. -/

namespace Sys2Proof

/-! ### Code words and the numbers they write (R131) -/

theorem natOfBits_concat (l : List Bool) (b : Bool) : natOfBits (l ++ [b]) = 2 * natOfBits l + b.toNat := by
  simp [natOfBits]

theorem cw_length (n v : Nat) : (cw n v).length = n := by
  simp [cw]

/-- The last bit of a code word is the lowest bit of its value; those before it write half the value. -/
theorem cw_succ (n v : Nat) : cw (n + 1) v = cw n (v / 2) ++ [v.testBit 0] := by
  have hinit : ∀ i ∈ List.range n, v.testBit (n + 1 - 1 - i) = (v / 2).testBit (n - 1 - i) := by
    intro i hi
    have hi : i < n := List.mem_range.mp hi
    rw [← Nat.testBit_succ]
    congr 1
    omega
  unfold cw
  rw [List.range_succ, List.map_append, List.map_congr_left hinit]
  simp

theorem natOfBits_cw (n v : Nat) : natOfBits (cw n v) = v % 2 ^ n := by
  induction n generalizing v with
  | zero => simp [cw, natOfBits, Nat.mod_one]
  | succ n ih =>
    rw [cw_succ, natOfBits_concat, ih, Nat.toNat_testBit, Nat.pow_zero, Nat.div_one, Nat.pow_succ', Nat.mod_mul,
      Nat.add_comm]

/-! ### Control bytes (R84) -/

/-- A byte's low seven bits, as `packBitsSymbol` takes them, are the byte less `k` where `k` is 0 or 128. -/
theorem Byte.lowSeven_eq_ofNat_sub (c : Byte) {k : Nat} (hk : k % 128 = 0) (hkc : k ≤ c.toNat) :
    c.extractLsb' 0 7 = BitVec.ofNat 7 (c.toNat - k) := by
  apply BitVec.eq_of_toNat_eq
  rw [BitVec.extractLsb'_toNat, BitVec.toNat_ofNat, Nat.shiftRight_zero]
  omega

/-- Which run a control byte is: below 128 a literal, 128 the no-op, above it a repeat (R262, R263, R265). -/
theorem packBitsSymbol_eq (c : Byte) : packBitsSymbol c =
    if c.toNat < 128 then .pbLiteral (BitVec.ofNat 7 c.toNat)
    else if c.toNat = 128 then .pbNop else .pbRepeat (BitVec.ofNat 7 (c.toNat - 128)) := by
  unfold packBitsSymbol
  split_ifs with hliteral hnop
  case pos => rw [Byte.lowSeven_eq_ofNat_sub c (Nat.zero_mod 128) (Nat.zero_le _), Nat.sub_zero]
  case pos => rfl
  case neg => rw [Byte.lowSeven_eq_ofNat_sub c (Nat.mod_self 128) (Nat.not_lt.mp hliteral)]

/-- A control byte is no command, so that DECODE and a step of the unit give it one meaning. -/
theorem encodeCmd_packBitsSymbol (c : Byte) : encodeCmd (packBitsSymbol c) = none := by
  unfold packBitsSymbol
  split_ifs <;> rfl

theorem decode_packBits_cw (c : Byte) : decode .packBits (cw 8 c.toNat) = .found (packBitsSymbol c) 8 := by
  have hbyte : BitVec.ofNat 8 (natOfBits (cw 8 c.toNat)) = c := by
    rw [natOfBits_cw, Nat.mod_eq_of_lt c.isLt, BitVec.ofNat_toNat, BitVec.setWidth_eq]
  have hlength : (cw 8 c.toNat).length = 8 := cw_length 8 _
  simp only [decode, fixedBits]
  rw [if_neg (by omega), List.take_of_length_le (by omega), hbyte]

end Sys2Proof

namespace Sys2Proof.Machine

open Sys2Proof Host

/-! ### The bits at a byte boundary (R131, R135, R137) -/

/-- Where none of the next `n` bits is missing, `PeekBits(n)` is those bits in order. -/
theorem peekBits_eq_map {lsb : Bool} {lin : List Byte} {f : Nat → Bool} {n i : Nat}
    (h : ∀ k < n, bitAt lsb lin (i + k) = some (f k)) : peekBits lsb lin n i = (List.range n).map f := by
  induction n generalizing i f with
  | zero => rfl
  | succ n ih =>
    have hfirst : bitAt lsb lin i = some (f 0) := h 0 n.succ_pos
    have hrest : ∀ k < n, bitAt lsb lin (i + 1 + k) = some (f (k + 1)) := by
      intro k hk
      rw [Nat.add_assoc, Nat.add_comm 1 k]
      exact h (k + 1) (Nat.succ_lt_succ hk)
    rw [List.range_succ_eq_map, List.map_cons, List.map_map, peekBits, hfirst]
    exact congrArg _ (ih hrest)

/-- The byte at the cursor is the byte of the input that the cursor stands in. -/
theorem StripState.lin_of_bytes {st : StripState} {c : Byte} {rest : List Byte} (h : st.bytes = c :: rest) :
    st.lin[st.bc / 8]? = some c := by
  have hhead : (st.lin.drop (st.bc / 8))[0]? = some c := congrArg (·[0]?) h
  rwa [List.getElem?_drop, Nat.add_zero] at hhead

/-- On a byte boundary the next eight bits are those of the next byte, most significant first. -/
theorem StripState.peekBits_of_bytes {st : StripState} {c : Byte} {rest : List Byte} (halign : st.bc % 8 = 0)
    (h : st.bytes = c :: rest) : peekBits false st.lin 8 st.bc = cw 8 c.toNat := by
  refine peekBits_eq_map fun k hk => ?_
  have hplace : (st.bc + k) / 8 = st.bc / 8 := by omega
  have hbit : (st.bc + k) % 8 = k := by omega
  rw [bitAt, hplace, st.lin_of_bytes h, hbit]
  rfl

/-! ### Fetching a control byte (R84, R264) -/

theorem StripState.fetch_packBits {st : StripState} {c : Byte} {rest : List Byte} (hcodec : st.codec = .packBits)
    (halign : st.bc % 8 = 0) (h : st.bytes = c :: rest) (P : Params) :
    fetch P st = .symbol (packBitsSymbol c) (st.skip 8) := by
  have hmore : st.bytes ≠ [] := h ▸ List.cons_ne_nil c rest
  unfold fetch
  rw [hcodec]
  simp only [fetchPackBits, fetchBits, if_neg hmore, st.peekBits_of_bytes halign h, decode_packBits_cw]

/-- A step of the PackBits unit takes one byte and runs the symbol it is. -/
theorem unitStep_packBits {s : State} {c : Byte} {rest : List Byte} (hcodec : s.strip.codec = .packBits)
    (halign : s.strip.bc % 8 = 0) (h : s.strip.bytes = c :: rest) :
    unitStep s = exec (packBitsSymbol c) { s with strip := s.strip.skip 8 } := by
  unfold unitStep
  rw [s.strip.fetch_packBits hcodec halign h, exec_eq_execSymbol (encodeCmd_packBitsSymbol c)]

/-! ### What the runs do -/

/-- Where its unit reads it, a PackBits symbol takes its step on the strip. -/
theorem State.atPackBits.onPackBits_eq {s : State} (h : s.atPackBits) (f : StripState → StripState) :
    onPackBits s f = .next { s with strip := f s.strip } := by
  obtain ⟨hterm, hcodec⟩ := h
  unfold onPackBits
  rw [hterm, hcodec]

theorem exec_pbNop (s : State) : exec .pbNop s = onPackBits s id := rfl

theorem exec_pbLiteral (n : BitVec 7) (s : State) :
    exec (.pbLiteral n) s = onPackBits s (pbLiteralStep (n.toNat + 1)) := rfl

/-- PB_REPEAT makes 257 - c copies for its control byte c = 0x80 + `n`, which is 129 - `n` (R265). -/
theorem exec_pbRepeat (n : BitVec 7) (s : State) :
    exec (.pbRepeat n) s = onPackBits s (pbRepeatStep (129 - n.toNat)) := by
  have hcopies : 257 - (0x80 + n.toNat) = 129 - n.toNat := by omega
  rw [← hcopies]
  rfl

theorem pbLiteralStep_of_short {n : Nat} {st : StripState} (h : st.bytes.length < n) :
    pbLiteralStep n st = st.fail .truncated :=
  if_pos h

theorem pbLiteralStep_of_enough {n : Nat} {st : StripState} (h : ¬ st.bytes.length < n) :
    pbLiteralStep n st = (st.emit (st.bytes.take n)).skip (8 * n) :=
  if_neg h

theorem pbRepeatStep_of_nil {n : Nat} {st : StripState} (h : st.bytes = []) :
    pbRepeatStep n st = st.fail .truncated := by
  unfold pbRepeatStep
  rw [h]

theorem pbRepeatStep_of_cons {n : Nat} {st : StripState} {v : Byte} {rest : List Byte} (h : st.bytes = v :: rest) :
    pbRepeatStep n st = (st.emit (List.replicate n v)).skip 8 := by
  unfold pbRepeatStep
  rw [h]

/-- Settles O31: the classification and the byte it takes by the decoder, the runs by the one step each takes on
the strip, split where the input ends inside the run. -/
theorem packBitsRuns : Obligations.PackBitsRuns := by
  refine ⟨packBitsSymbol_eq, fun s hs => ⟨fun c rest halign hbytes => ?control, ?nop, fun n => ?literal,
    fun n _ => ⟨fun hbytes => ?repeatShort, fun v rest hbytes => ?repeats⟩⟩⟩
  case control =>
    obtain ⟨_, hcodec⟩ := hs
    exact unitStep_packBits hcodec halign hbytes
  case nop => rw [exec_pbNop, hs.onPackBits_eq]; rfl
  case literal =>
    rw [exec_pbLiteral, hs.onPackBits_eq]
    split_ifs with hshort
    · rw [pbLiteralStep_of_short hshort]; rfl
    · rw [pbLiteralStep_of_enough hshort]; rfl
  case repeatShort => rw [exec_pbRepeat, hs.onPackBits_eq, pbRepeatStep_of_nil hbytes]; rfl
  case repeats => rw [exec_pbRepeat, hs.onPackBits_eq, pbRepeatStep_of_cons hbytes]; rfl

end Sys2Proof.Machine

/-! Proof of O55: EXTEND's values and their halves (R327, R92). -/

namespace Sys2Proof.Machine

open Sys2Proof

theorem extend_zero (v : Nat) : extend v 0 = 0 := rfl

/-- The upper half of the strings of t bits stands for itself. -/
theorem extend_of_le {v t : Nat} (ht : 1 ≤ t) (h : 2 ^ (t - 1) ≤ v) : extend v t = v := by
  unfold extend
  rw [if_neg (Nat.ne_of_gt ht), if_neg (Nat.not_lt.mpr h)]

/-- The lower half of the strings of t bits is shifted below zero. -/
theorem extend_of_lt {v t : Nat} (ht : 1 ≤ t) (h : v < 2 ^ (t - 1)) : extend v t = (v : Int) - (2 ^ t - 1) := by
  unfold extend
  rw [if_neg (Nat.ne_of_gt ht), if_pos h]

/-- A leading 1 bit means a positive value of exactly t bits. -/
theorem extend_mem_of_le {v t : Nat} (ht : 1 ≤ t) (hv : v < 2 ^ t) (h : 2 ^ (t - 1) ≤ v) :
    2 ^ (t - 1) ≤ extend v t ∧ extend v t ≤ 2 ^ t - 1 := by
  rw [extend_of_le ht h]
  zify at hv h
  omega

/-- A leading 0 bit means the negative of a value of exactly t bits. -/
theorem extend_mem_of_lt {v t : Nat} (ht : 1 ≤ t) (h : v < 2 ^ (t - 1)) :
    -(2 ^ t - 1) ≤ extend v t ∧ extend v t ≤ -2 ^ (t - 1) := by
  have hpow : (2 : Int) * 2 ^ (t - 1) = 2 ^ t := mul_pow_sub_one (Nat.ne_of_gt ht) 2
  rw [extend_of_lt ht h]
  zify at h
  omega

theorem extend_natAbs_bounds {v t : Nat} (ht : 1 ≤ t) (hv : v < 2 ^ t) :
    2 ^ (t - 1) ≤ (extend v t).natAbs ∧ (extend v t).natAbs ≤ 2 ^ t - 1 := by
  zify [Nat.one_le_two_pow]
  have hpos : (0 : Int) < 2 ^ (t - 1) := by positivity
  rcases le_or_gt (2 ^ (t - 1)) v with h | h
  · obtain ⟨hlo, hhi⟩ := extend_mem_of_le ht hv h
    rw [abs_of_pos (hpos.trans_le hlo)]
    exact ⟨hlo, hhi⟩
  · obtain ⟨hlo, hhi⟩ := extend_mem_of_lt ht h
    rw [abs_of_neg (hhi.trans_lt (neg_lt_zero.mpr hpos))]
    exact ⟨le_neg_of_le_neg hhi, neg_le.mp hlo⟩

/-- The sign of EXTEND tells the half its string lies in. -/
theorem extend_pos_iff {v t : Nat} (ht : 1 ≤ t) (hv : v < 2 ^ t) : 0 < extend v t ↔ 2 ^ (t - 1) ≤ v := by
  have hpos : (0 : Int) < 2 ^ (t - 1) := by positivity
  refine ⟨fun hsign => ?_, fun h => hpos.trans_le (extend_mem_of_le ht hv h).1⟩
  by_contra h
  obtain ⟨_, hhi⟩ := extend_mem_of_lt ht (Nat.lt_of_not_le h)
  omega

/-- Equal values have the same sign, hence strings in the same half, and on each half EXTEND is a shift. -/
theorem extend_inj {u v t : Nat} (ht : 1 ≤ t) (hu : u < 2 ^ t) (hv : v < 2 ^ t) (h : extend u t = extend v t) :
    u = v := by
  have hhalf : 2 ^ (t - 1) ≤ u ↔ 2 ^ (t - 1) ≤ v := by
    rw [← extend_pos_iff ht hu, ← extend_pos_iff ht hv, h]
  rcases le_or_gt (2 ^ (t - 1)) v with hle | hlt
  · rw [extend_of_le ht (hhalf.mpr hle), extend_of_le ht hle] at h
    exact Int.ofNat.inj h
  · rw [extend_of_lt ht (Nat.lt_of_not_le (mt hhalf.mp (Nat.not_le.mpr hlt))), extend_of_lt ht hlt] at h
    exact Int.ofNat.inj (sub_left_injective h)

/-- Settles O55: the values by the two halves of the strings of t bits, the range and the injectivity by the sign
that tells them apart. -/
theorem extendValues : Obligations.ExtendValues := by
  refine ⟨extend_zero, ?upperExample, ?lowerExample, rfl, rfl, fun t ht v hv => ?_⟩
  case upperExample => exact extend_of_le (by decide) (by decide)
  case lowerExample => exact extend_of_lt (by decide) (by decide)
  obtain ⟨hlo, hhi⟩ := extend_natAbs_bounds ht hv
  exact ⟨extend_of_le ht, extend_of_lt ht, hlo, hhi, fun u hu heq => extend_inj ht hu hv heq⟩

end Sys2Proof.Machine

/-! What the symbols of each unit mean at their place, and everything a step of a unit can do (log 2, log 21, log 22).

`UnitResult` lists once what a step of a strip's unit can leave; `unitStep_result` says that every step of a stream
that has not ended leaves one of these. The invariants of the strip are read off it. -/

namespace Sys2Proof.Machine

open Sys2Proof Host

/-! ### A symbol at its place -/

theorem State.atLzw.onLzw_eq {s : State} {z : LzwState} (h : s.atLzw z) (f : LzwState → StripState → StripState) :
    onLzw s f = .next { s with strip := f z s.strip } := by
  obtain ⟨hterm, hcodec⟩ := h
  unfold onLzw
  rw [hterm, hcodec]

theorem State.atFax.onFax_eq {s : State} {x : FaxState} (h : s.atFax x) {here : FaxState → Bool}
    (hhere : here x = true) (f : FaxState → StripState → StripState) :
    onFax s here f = .next { s with strip := f x s.strip } := by
  obtain ⟨hterm, hcodec⟩ := h
  unfold onFax
  rw [hterm, hcodec]
  exact if_pos hhere

theorem State.atLogLuv.onLogLuv_eq {s : State} {v : LogLuvState} (h : s.atLogLuv v)
    (f : LogLuvState → StripState → StripState) : onLogLuv s f = .next { s with strip := f v s.strip } := by
  obtain ⟨hterm, hcodec⟩ := h
  unfold onLogLuv
  rw [hterm, hcodec]

theorem State.atJpeg.onJpeg_eq {s : State} {j : JpegState} (h : s.atJpeg j) {here : JpegState → Bool}
    (hhere : here j = true) (f : JpegState → StripState → StripState) :
    onJpeg s here f = .next { s with strip := f j s.strip } := by
  obtain ⟨hterm, hcodec⟩ := h
  unfold onJpeg
  rw [hterm, hcodec]
  exact if_pos hhere

theorem State.atJpeg.onMarker_eq {s : State} {j : JpegState} (h : s.atJpeg j)
    (f : JpegState → StripState → StripState) : onMarker s f = .next { s with strip := f j s.strip } :=
  h.onJpeg_eq rfl f

/-! ### Run codes (R193 to R196): the rows of the tables -/

theorem exec_of_mem_mhWhiteTerm : ∀ row ∈ mhWhiteTerm, exec row.2.2 = terminating .white row.1 :=
  List.map_inj_left.mp rfl

theorem exec_of_mem_mhBlackTerm : ∀ row ∈ mhBlackTerm, exec row.2.2 = terminating .black row.1 :=
  List.map_inj_left.mp rfl

theorem exec_of_mem_mhWhiteMakeup : ∀ row ∈ mhWhiteMakeup, exec row.2.2 = makeup .white row.1 :=
  List.map_inj_left.mp rfl

theorem exec_of_mem_mhBlackMakeup : ∀ row ∈ mhBlackMakeup, exec row.2.2 = makeup .black row.1 :=
  List.map_inj_left.mp rfl

theorem exec_of_mem_mhExtMakeup : ∀ row ∈ mhExtMakeup, exec row.2.2 = extMakeup row.1 :=
  List.map_inj_left.mp rfl

/-- A run code is no command. -/
theorem encodeCmd_of_mem_runTables :
    ∀ row ∈ mhWhiteTerm ++ mhWhiteMakeup ++ mhBlackTerm ++ mhBlackMakeup ++ mhExtMakeup,
      encodeCmd row.2.2 = none :=
  List.map_inj_left.mp rfl

/-- What a run code does to the run being read. -/
inductive RunAction : (FaxState → StripState → StripState) → Prop
  | terminating (n : Nat) : RunAction (terminatingStep n)
  | makeup (n : Nat) : RunAction (makeupStep n)

/-- Every run code of a colour acts where a run of that colour is read (R196). -/
theorem exec_runCode {k : Colour} {p : List Bool × Instr} (hp : p ∈ runCodes k.pixel) :
    encodeCmd p.2 = none ∧ ∃ f, RunAction f ∧ ∀ (s : State) (x : FaxState), s.atFax x →
      x.inRun s.strip.cfg = true → x.runColour = k → exec p.2 s = .next { s with strip := f x s.strip } := by
  have hhere {s : State} {x : FaxState} (hrun : x.inRun s.strip.cfg = true) (hcol : x.runColour = k) :
      runHere k s.strip.cfg x = true := by simp [runHere, hrun, hcol]
  have hterm {row : Nat × List Bool × Instr} (h : exec row.2.2 = terminating k row.1) :
      ∃ f, RunAction f ∧ ∀ (s : State) (x : FaxState), s.atFax x →
        x.inRun s.strip.cfg = true → x.runColour = k → exec row.2.2 s = .next { s with strip := f x s.strip } :=
    ⟨_, .terminating row.1, fun s x hx hrun hcol => h ▸ hx.onFax_eq (hhere hrun hcol) _⟩
  have hmake {row : Nat × List Bool × Instr} (h : exec row.2.2 = makeup k row.1) :
      ∃ f, RunAction f ∧ ∀ (s : State) (x : FaxState), s.atFax x →
        x.inRun s.strip.cfg = true → x.runColour = k → exec row.2.2 s = .next { s with strip := f x s.strip } :=
    ⟨_, .makeup row.1, fun s x hx hrun hcol => h ▸ hx.onFax_eq (hhere hrun hcol) _⟩
  obtain ⟨row, hrow, rfl⟩ := List.mem_map.mp hp
  refine ⟨encodeCmd_of_mem_runTables row ?_, ?_⟩
  · cases k <;> simp [Colour.pixel] at hrow ⊢ <;> tauto
  rcases List.mem_append.mp hrow with hrow | hext
  · cases k with
    | white =>
      rcases List.mem_append.mp hrow with h | h
      · exact hterm (exec_of_mem_mhWhiteTerm row h)
      · exact hmake (exec_of_mem_mhWhiteMakeup row h)
    | black =>
      rcases List.mem_append.mp hrow with h | h
      · exact hterm (exec_of_mem_mhBlackTerm row h)
      · exact hmake (exec_of_mem_mhBlackMakeup row h)
  · exact ⟨_, .makeup row.1, fun s x hx hrun _ => exec_of_mem_mhExtMakeup row hext ▸ hx.onFax_eq hrun _⟩

/-! ### Mode codes (R224 to R231) -/

/-- What a mode code does. -/
inductive ModeAction : (FaxState → StripState → StripState) → Prop
  | pass : ModeAction passStep
  | horizontal : ModeAction horizontalStep
  | vertical (k : Int) : ModeAction (verticalStep k)
  | extension (e : BitVec 3) : ModeAction (extensionStep e)

theorem State.atFax.onMode_eq {s : State} {x : FaxState} (h : s.atFax x) (hhere : modeHere s.strip.cfg x = true)
    (f : FaxState → StripState → StripState) :
    onMode s f = .next { s with strip := f { x with phase := .mode } s.strip } :=
  h.onFax_eq hhere _

/-- The READ mode codes, each with what it does. -/
def modeActions : List (Instr × (FaxState → StripState → StripState)) :=
  [(.readP, passStep), (.readH, horizontalStep), (.readV0, verticalStep 0), (.readVr1, verticalStep 1),
    (.readVr2, verticalStep 2), (.readVr3, verticalStep 3), (.readVl1, verticalStep (-1)),
    (.readVl2, verticalStep (-2)), (.readVl3, verticalStep (-3))] ++
  (List.range 8).map fun e => (.readExt (BitVec.ofNat 3 e), extensionStep (BitVec.ofNat 3 e))

theorem map_snd_modeCodes : modeCodes.map (·.2) = modeActions.map (·.1) := rfl

theorem exec_of_mem_modeActions : ∀ row ∈ modeActions, exec row.1 = fun s => onMode s row.2 :=
  List.map_inj_left.mp rfl

theorem encodeCmd_of_mem_modeActions : ∀ row ∈ modeActions, encodeCmd row.1 = none :=
  List.map_inj_left.mp rfl

theorem modeAction_of_mem {row : Instr × (FaxState → StripState → StripState)} (h : row ∈ modeActions) :
    ModeAction row.2 := by
  rcases List.mem_append.mp h with h | h
  · fin_cases h
    · exact .pass
    · exact .horizontal
    all_goals exact .vertical _
  · obtain ⟨e, _, rfl⟩ := List.mem_map.mp h
    exact .extension _

/-- Every mode code acts where a mode code is read. -/
theorem exec_modeCode {p : List Bool × Instr} (hp : p ∈ modeCodes) :
    encodeCmd p.2 = none ∧ ∃ f, ModeAction f ∧ ∀ (s : State) (x : FaxState), s.atFax x →
      modeHere s.strip.cfg x = true →
        exec p.2 s = .next { s with strip := f { x with phase := .mode } s.strip } := by
  have hmem : p.2 ∈ modeActions.map (·.1) := map_snd_modeCodes ▸ List.mem_map_of_mem hp
  obtain ⟨row, hrow, hi⟩ := List.mem_map.mp hmem
  rw [← hi]
  refine ⟨encodeCmd_of_mem_modeActions row hrow, row.2, modeAction_of_mem hrow, fun s x hx hhere => ?_⟩
  rw [exec_of_mem_modeActions row hrow]
  exact hx.onMode_eq hhere _

/-! ### Markers (R339) -/

/-- The markers of the modes the block does not support (R321). -/
def unsupportedModes : List Instr :=
  [.jpegSof2, .jpegSof3, .jpegSof5, .jpegSof6, .jpegSof7, .jpegJpg, .jpegSof9, .jpegSof10, .jpegSof11, .jpegDac,
    .jpegSof13, .jpegSof14, .jpegSof15, .jpegDhp, .jpegExp]

/-- Each marker with what it does where the JPEG unit reads it. -/
inductive MarkerMeaning : Instr → (JpegState → StripState → StripState) → Prop
  | soi : MarkerMeaning .jpegSoi soiStep
  | eoi : MarkerMeaning .jpegEoi (markerStep true eoiAct)
  | dqt : MarkerMeaning .jpegDqt (markerStep false (tablesAct dqt))
  | dht : MarkerMeaning .jpegDht (markerStep false (tablesAct dht))
  | dri : MarkerMeaning .jpegDri (markerStep false (tablesAct dri))
  | sof0 : MarkerMeaning .jpegSof0 (markerStep false sofAct)
  | sof1 : MarkerMeaning .jpegSof1 (markerStep false sofAct)
  | sos : MarkerMeaning .jpegSos (markerStep false sosAct)
  | com : MarkerMeaning .jpegCom (markerStep false skipAct)
  | appn (n : BitVec 4) : MarkerMeaning (.jpegAppn n) (markerStep false skipAct)
  | mode (i : Instr) (h : i ∈ unsupportedModes) : MarkerMeaning i (markerStep false modeAct)
  | dnl : MarkerMeaning .jpegDnl (markerStep false dnlAct)
  | tem : MarkerMeaning .jpegTem (markerStep false badAct)
  | res (c : BitVec 8) : MarkerMeaning (.jpegRes c) (markerStep false badAct)
  | rstm (m : BitVec 3) : MarkerMeaning (.jpegRstm m) (rstStep m.toNat)

theorem exec_of_mem_unsupportedModes :
    ∀ i ∈ unsupportedModes, exec i = fun s => onMarker s (markerStep false modeAct) :=
  List.map_inj_left.mp rfl

theorem encodeCmd_of_mem_unsupportedModes : ∀ i ∈ unsupportedModes, encodeCmd i = none :=
  List.map_inj_left.mp rfl

theorem MarkerMeaning.exec_eq {i : Instr} {f : JpegState → StripState → StripState} (h : MarkerMeaning i f)
    (s : State) : exec i s = onMarker s f := by
  cases h with
  | mode i h => rw [exec_of_mem_unsupportedModes i h]
  | _ => rfl

theorem MarkerMeaning.encodeCmd_eq {i : Instr} {f : JpegState → StripState → StripState} (h : MarkerMeaning i f) :
    encodeCmd i = none := by
  cases h with
  | mode i h => exact encodeCmd_of_mem_unsupportedModes i h
  | _ => rfl

/-- Every instruction with a code byte has the meaning of a marker. -/
theorem exists_markerMeaning {i : Instr} {m : Byte} (h : markerCode i = some m) : ∃ f, MarkerMeaning i f := by
  unfold markerCode at h
  split at h
  case h_1 => exact ⟨_, .tem⟩
  case h_2 => exact ⟨_, .sof0⟩
  case h_3 => exact ⟨_, .sof1⟩
  case h_6 => exact ⟨_, .dht⟩
  case h_18 => exact ⟨_, .rstm _⟩
  case h_19 => exact ⟨_, .soi⟩
  case h_20 => exact ⟨_, .eoi⟩
  case h_21 => exact ⟨_, .sos⟩
  case h_22 => exact ⟨_, .dqt⟩
  case h_23 => exact ⟨_, .dnl⟩
  case h_24 => exact ⟨_, .dri⟩
  case h_27 => exact ⟨_, .appn _⟩
  case h_28 => exact ⟨_, .com⟩
  case h_29 => exact ⟨_, .res _⟩
  case h_30 => cases h
  all_goals exact ⟨_, .mode _ (by simp [unsupportedModes])⟩

theorem exists_markerCode_of_markerInstr {m : Byte} {i : Instr} (h : markerInstr m = some i) :
    ∃ m', markerCode i = some m' := by
  unfold markerInstr at h
  split at h
  case h_27 =>
    split_ifs at h
    all_goals
      cases h
      exact ⟨_, rfl⟩
  all_goals
    cases h
    exact ⟨_, rfl⟩

end Sys2Proof.Machine

/-! Everything a step of a unit can do. -/

namespace Sys2Proof.Machine

open Sys2Proof Host

/-! ### Reading bits -/

theorem bitAt_lt {lsb : Bool} {lin : List Byte} {i : Nat} {b : Bool} (h : bitAt lsb lin i = some b) :
    i < 8 * lin.length := by
  obtain ⟨c, hc, _⟩ := Option.map_eq_some_iff.mp h
  obtain ⟨hlt, _⟩ := List.getElem?_eq_some_iff.mp hc
  omega

/-- A window holds no more bits than remain. -/
theorem peekBits_length_le (lsb : Bool) (lin : List Byte) (n i : Nat) :
    (peekBits lsb lin n i).length ≤ 8 * lin.length - i := by
  induction n generalizing i with
  | zero => exact Nat.zero_le _
  | succ n ih =>
    rw [peekBits]
    split
    case h_1 => exact Nat.zero_le _
    case h_2 b hb =>
      have hlt := bitAt_lt hb
      have hrest := ih (i + 1)
      rw [List.length_cons]
      omega

theorem StripState.peek_length_le (st : StripState) (lsb : Bool) (n : Nat) :
    (peekBits lsb st.lin n st.bc).length ≤ st.remaining :=
  peekBits_length_le lsb st.lin n st.bc

theorem StripState.bytes_skip (st : StripState) (k : Nat) : (st.skip (8 * k)).bytes = st.bytes.drop k := by
  unfold StripState.bytes
  rw [StripState.skip_lin, StripState.skip_bc, List.drop_drop]
  congr 1
  omega

/-! ### What a format's bits can decode to -/

/-- A code word found is one of the candidates', and at least one bit of those at hand (R197, R224). -/
theorem matchCode_found {cands : List (List Bool × Instr)} {n k : Nat} {bits : List Bool} {i : Instr}
    (h : matchCode cands n bits = .found i k) :
    n < k ∧ k ≤ n + bits.length ∧ ∃ p ∈ cands, p.2 = i := by
  induction bits generalizing cands n with
  | nil => cases h
  | cons b bits ih =>
    have hback : ∀ q ∈ (cands.filterMap fun p =>
        match p.1 with
        | [] => none
        | c :: u => if c = b then some (u, p.2) else none), ∃ p ∈ cands, p.2 = q.2 := by
      intro q hq
      obtain ⟨p, hp, hpq⟩ := List.mem_filterMap.mp hq
      refine ⟨p, hp, ?_⟩
      split at hpq
      · cases hpq
      · split_ifs at hpq
        cases hpq
        rfl
    rw [matchCode] at h
    split at h
    case h_1 p hp =>
      cases h
      obtain ⟨q, hq, hqi⟩ := hback p (List.mem_of_find?_eq_some hp)
      refine ⟨Nat.lt_succ_self n, ?_, q, hq, hqi⟩
      rw [List.length_cons]
      omega
    case h_2 =>
      split_ifs at h
      obtain ⟨hlo, hhi, q, hq, hqi⟩ := ih h
      obtain ⟨p, hp, hpq⟩ := hback q hq
      refine ⟨by omega, ?_, p, hp, hpq.trans hqi⟩
      rw [List.length_cons]
      omega

theorem fixedBits_found {n : Nat} {bits : List Bool} {f : List Bool → Decoded} {i : Instr} {k : Nat}
    (h : fixedBits n bits f = .found i k) : n ≤ bits.length ∧ f (bits.take n) = .found i k := by
  unfold fixedBits at h
  split_ifs at h with hshort
  exact ⟨Nat.not_lt.mp hshort, h⟩

theorem findEol_found {z n k : Nat} {bits : List Bool} {i : Instr} (h : findEol z n bits = .found i k) :
    i = .faxEol ∧ n < k ∧ k ≤ n + bits.length := by
  induction bits generalizing z n with
  | nil => cases h
  | cons b bits ih =>
    cases b with
    | false =>
      obtain ⟨hi, hlo, hhi⟩ := ih h
      exact ⟨hi, by omega, by rw [List.length_cons]; omega⟩
    | true =>
      rw [findEol] at h
      split_ifs at h
      · cases h
        exact ⟨rfl, Nat.lt_succ_self n, by rw [List.length_cons]; omega⟩
      · obtain ⟨hi, hlo, hhi⟩ := ih h
        exact ⟨hi, by omega, by rw [List.length_cons]; omega⟩

theorem huffWalk_value {hv : List Byte} {l : List (Nat × Int × Nat)} {code used k : Nat} {bits : List Bool}
    {v : Byte} (h : huffWalk hv l code used bits = .value v k) : used < k := by
  induction l generalizing code used bits with
  | nil => cases h
  | cons p l ih =>
    cases bits with
    | nil => cases h
    | cons b bits =>
      rw [huffWalk] at h
      split_ifs at h
      · exact Nat.lt_of_succ_lt (ih h)
      · cases h
        exact Nat.lt_succ_self used

/-! ### The actions of each unit -/

inductive LzwAction : (LzwState → StripState → StripState) → Prop
  | literal (c : Byte) : LzwAction (lzwLiteralStep c)
  | clear : LzwAction lzwClearStep
  | eoi : LzwAction lzwEoiStep
  | dict (c : Nat) : LzwAction (lzwDictStep c)
  | kwkwk (c : Nat) : LzwAction (lzwKwkwkStep c)
  | bad : LzwAction lzwBadStep

inductive PackBitsAction : (StripState → StripState) → Prop
  | literal (n : Nat) : PackBitsAction (pbLiteralStep n)
  | nop : PackBitsAction id
  | copies (n : Nat) : PackBitsAction (pbRepeatStep n)

inductive LogLuvAction : (LogLuvState → StripState → StripState) → Prop
  | run (n : Nat) : LogLuvAction (logLuvRunStep Config.params n)
  | literal (n : Nat) : LogLuvAction (logLuvLiteralStep Config.params n)

/-- Each entropy-coded symbol's action, where it stands in a block. -/
inductive EntropyAction (j : JpegState) : (JpegState → StripState → StripState) → Prop
  | dc (t v : Nat) (h : j.zz = []) : EntropyAction j (dcStep t v)
  | ac (rs v : Nat) (h : j.zz ≠ []) (hk : j.zz.length < 64) : EntropyAction j (acStep Config.params rs v)

/-- A stream may end so: normally, or with an error of the kinds of R422. -/
inductive Terminator.InStream : Terminator → Prop
  | done : InStream .done
  | error {k : ErrKind} (h : k.inStream = true) : InStream (.error k)

/-- What one step of a strip's unit can leave. -/
inductive UnitResult (st : StripState) : StripState → Prop
  /-- The stream ends where it stands; only a fax unit leaves its place in the byte for that. -/
  | ends (c : Nat) (t : Terminator) (hc : c % 8 = st.bc % 8 ∨ ∃ x, st.codec = .fax x) (h : t.InStream) :
      UnitResult st { st with bc := c, term := some t }
  | lzw (z : LzwState) (f : LzwState → StripState → StripState) (hcodec : st.codec = .lzw z) (hf : LzwAction f)
      (hleft : z.nbits ≤ st.remaining) : UnitResult st (f z (st.skip z.nbits))
  | packBits (f : StripState → StripState) (hcodec : st.codec = .packBits) (hf : PackBitsAction f)
      (hleft : 8 ≤ st.remaining) : UnitResult st (f (st.skip 8))
  | faxRun (x : FaxState) (c : Nat) (f : FaxState → StripState → StripState) (hcodec : st.codec = .fax x)
      (hhere : x.inRun st.cfg = true) (hf : RunAction f) (hc : st.bc < c ∧ c ≤ 8 * st.lin.length) :
      UnitResult st (f x { st with bc := c })
  | faxMode (x : FaxState) (c : Nat) (f : FaxState → StripState → StripState) (hcodec : st.codec = .fax x)
      (hhere : modeHere st.cfg x = true) (hf : ModeAction f) (hc : st.bc < c ∧ c ≤ 8 * st.lin.length) :
      UnitResult st (f { x with phase := .mode } { st with bc := c })
  | faxEol (x : FaxState) (c : Nat) (hcodec : st.codec = .fax x) (hhere : x.phase = .seekEol)
      (hc : st.bc < c ∧ c ≤ 8 * st.lin.length) : UnitResult st (eolStep x { st with bc := c })
  | faxTag (x : FaxState) (c : Nat) (twoD : Bool) (hcodec : st.codec = .fax x) (hhere : x.phase = .tag)
      (hc : st.bc < c ∧ c ≤ 8 * st.lin.length) : UnitResult st (rowTestStep twoD x { st with bc := c })
  | rawRow (v : LogLuvState) (hcodec : st.codec = .logLuv v) : UnitResult st (rawRowStep Config.params st)
  | logLuv (v : LogLuvState) (f : LogLuvState → StripState → StripState) (hcodec : st.codec = .logLuv v)
      (hf : LogLuvAction f) (hleft : 8 ≤ st.remaining) : UnitResult st (f v (st.skip 8))
  | marker (j : JpegState) (i : Instr) (f : JpegState → StripState → StripState) (n : Nat)
      (hcodec : st.codec = .jpeg j) (hf : MarkerMeaning i f) (hn : 1 ≤ n ∧ n ≤ st.bytes.length) :
      UnitResult st (f j (st.skip (8 * n)))
  /-- A stuffed byte, after `k` plain ones. -/
  | stuff (j : JpegState) (ebuf : List Bool) (k : Nat) (hcodec : st.codec = .jpeg j) (hphase : j.phase = .entropy)
      (hebuf : ebuf.length = j.ebuf.length + 8 * k) (hk : k + 2 ≤ st.bytes.length) :
      UnitResult st (stuffStep { j with ebuf }
        { st with bc := st.bc + 8 * (k + 2), codec := .jpeg { j with ebuf } })
  /-- An entropy-coded symbol of `used` bits, `k` bytes having been added to the bit buffer for it. -/
  | entropy (j : JpegState) (ebuf : List Bool) (k used : Nat) (f : JpegState → StripState → StripState)
      (hcodec : st.codec = .jpeg j) (hphase : j.phase = .entropy) (hf : EntropyAction j f)
      (hebuf : ebuf.length + used = j.ebuf.length + 8 * k) (hused : 1 ≤ used) (hk : k ≤ st.bytes.length) :
      UnitResult st (f { j with ebuf } { st with bc := st.bc + 8 * k, codec := .jpeg { j with ebuf } })
  | deflate (hcodec : st.codec = .deflate) : UnitResult st (zlibStep Config.params st)

theorem UnitResult.endsHere {st : StripState} {t : Terminator} (h : t.InStream) : UnitResult st (st.stop t) :=
  .ends st.bc t (.inl rfl) h

theorem UnitResult.endsAfter {st : StripState} {t : Terminator} (k : Nat) (h : t.InStream) :
    UnitResult st ((st.skip (8 * k)).stop t) :=
  .ends (st.bc + 8 * k) t (.inl (Nat.add_mul_mod_self_left _ _ _)) h

/-- The step is taken, and leaves what `UnitResult` says. -/
def State.Steps (s : State) (o : Outcome State Fault Refusal) : Prop :=
  ∃ st, o = .next { s with strip := st } ∧ UnitResult s.strip st

/-! ### The fetch of each unit -/

/-- What a unit reads next, its outcome for the state: the end of the stream, or the symbol's meaning. -/
def Fetched.run (s : State) : Fetched → Outcome State Fault Refusal
  | .quiet st => .next { s with strip := st }
  | .symbol i st => execSymbol i { s with strip := st }

theorem unitStep_eq_run (s : State) : unitStep s = (fetch Config.params s.strip).run s := by
  unfold unitStep
  cases fetch Config.params s.strip <;> rfl

theorem State.steps_quiet {s : State} {st : StripState} (h : UnitResult s.strip st) :
    s.Steps (Fetched.run s (.quiet st)) :=
  ⟨st, rfl, h⟩

theorem State.steps_symbol {s : State} {i : Instr} {st st' : StripState} (hi : encodeCmd i = none)
    (hexec : exec i { s with strip := st } = .next { s with strip := st' }) (h : UnitResult s.strip st') :
    s.Steps (Fetched.run s (.symbol i st)) :=
  ⟨st', (exec_eq_execSymbol hi _).symm.trans hexec, h⟩

/-- A symbol of a format from a window at the cursor `c`: bits that are no symbol end the stream, so only the
symbols that the bits can decode to are left to be looked at. -/
theorem State.steps_fetchBits {s : State} {f : Fmt} {lsb : Bool} {n c : Nat} {bad : ErrKind}
    (hc : c % 8 = s.strip.bc % 8 ∨ ∃ x, s.strip.codec = .fax x) (hbad : bad.inStream = true)
    (h : ∀ i used, decode f (peekBits lsb s.strip.lin n c) = .found i used →
      s.Steps (Fetched.run s (.symbol i { s.strip with bc := c + used }))) :
    s.Steps (Fetched.run s (fetchBits f lsb n bad { s.strip with bc := c })) := by
  unfold fetchBits
  split
  case h_1 i used hdec => exact h i used hdec
  case h_2 => exact State.steps_quiet (.ends c _ hc (.error hbad))
  case h_3 => exact State.steps_quiet (.ends c _ hc (.error rfl))

theorem lzwSymbol_action (nextFree : Nat) (hasPrev : Bool) (c : Nat) :
    encodeCmd (lzwSymbol nextFree hasPrev c) = none ∧ ∃ f, LzwAction f ∧
      ∀ s : State, exec (lzwSymbol nextFree hasPrev c) s = onLzw s f := by
  unfold lzwSymbol
  split_ifs
  · exact ⟨rfl, _, .literal _, fun _ => rfl⟩
  · exact ⟨rfl, _, .clear, fun _ => rfl⟩
  · exact ⟨rfl, _, .eoi, fun _ => rfl⟩
  · exact ⟨rfl, _, .bad, fun _ => rfl⟩
  · exact ⟨rfl, _, .dict _, fun _ => rfl⟩
  · exact ⟨rfl, _, .kwkwk _, fun _ => rfl⟩
  · exact ⟨rfl, _, .bad, fun _ => rfl⟩

theorem State.steps_lzw {s : State} {z : LzwState} (h : s.atLzw z) :
    s.Steps (Fetched.run s (fetchLzw z s.strip)) := by
  obtain ⟨hterm, hcodec⟩ := h
  unfold fetchLzw
  split_ifs with hshort
  · exact State.steps_quiet (.endsHere .done)
  refine State.steps_fetchBits (c := s.strip.bc) (.inl rfl) rfl fun i used hdec => ?_
  rw [decode] at hdec
  obtain ⟨_, hfound⟩ := fixedBits_found hdec
  cases hfound
  obtain ⟨hcmd, f, hf, hexec⟩ := lzwSymbol_action z.nextFree z.prev.isSome _
  refine State.steps_symbol hcmd ?_ (.lzw z f hcodec hf (Nat.not_lt.mp hshort))
  rw [hexec]
  exact State.atLzw.onLzw_eq (s := { s with strip := s.strip.skip z.nbits }) ⟨hterm, hcodec⟩ f

theorem packBitsSymbol_action (c : Byte) : ∃ f, PackBitsAction f ∧
    ∀ s : State, exec (packBitsSymbol c) s = onPackBits s f := by
  unfold packBitsSymbol
  split_ifs
  · exact ⟨_, .literal _, fun _ => rfl⟩
  · exact ⟨_, .nop, fun _ => rfl⟩
  · exact ⟨_, .copies _, fun _ => rfl⟩

theorem State.steps_packBits {s : State} (h : s.atPackBits) :
    s.Steps (Fetched.run s (fetchPackBits s.strip)) := by
  obtain ⟨hterm, hcodec⟩ := h
  unfold fetchPackBits
  split_ifs
  · exact State.steps_quiet (.endsHere .done)
  refine State.steps_fetchBits (c := s.strip.bc) (.inl rfl) rfl fun i used hdec => ?_
  rw [decode] at hdec
  obtain ⟨hlen, hfound⟩ := fixedBits_found hdec
  cases hfound
  obtain ⟨f, hf, hexec⟩ := packBitsSymbol_action _
  refine State.steps_symbol (encodeCmd_packBitsSymbol _) ?_
    (.packBits f hcodec hf (hlen.trans (s.strip.peek_length_le false 8)))
  rw [hexec]
  exact State.atPackBits.onPackBits_eq (s := { s with strip := s.strip.skip 8 }) ⟨hterm, hcodec⟩ f

theorem logLuvSymbol_action (c : Byte) : encodeCmd (logLuvSymbol c) = none ∧ ∃ f, LogLuvAction f ∧
    ∀ s : State, exec (logLuvSymbol c) s = onLogLuv s f := by
  unfold logLuvSymbol
  split_ifs
  · exact ⟨rfl, _, .literal _, fun _ => rfl⟩
  · exact ⟨rfl, _, .run _, fun _ => rfl⟩

theorem State.steps_logLuv {s : State} {v : LogLuvState} (h : s.atLogLuv v) :
    s.Steps (Fetched.run s (fetchLogLuv Config.params v s.strip)) := by
  obtain ⟨hterm, hcodec⟩ := h
  unfold fetchLogLuv
  split_ifs
  · exact State.steps_quiet (.rawRow v hcodec)
  · exact State.steps_quiet (.endsHere (.error rfl))
  · exact State.steps_quiet (.endsHere .done)
  refine State.steps_fetchBits (c := s.strip.bc) (.inl rfl) rfl fun i used hdec => ?_
  rw [decode] at hdec
  obtain ⟨hlen, hfound⟩ := fixedBits_found hdec
  cases hfound
  obtain ⟨hcmd, f, hf, hexec⟩ := logLuvSymbol_action _
  refine State.steps_symbol hcmd ?_ (.logLuv v f hcodec hf (hlen.trans (s.strip.peek_length_le false 8)))
  rw [hexec]
  exact State.atLogLuv.onLogLuv_eq (s := { s with strip := s.strip.skip 8 }) ⟨hterm, hcodec⟩ f

/-! ### The fetch of the fax units -/

theorem State.steps_fetchRun {s : State} {x : FaxState} {c : Nat} (h : s.atFax x)
    (hhere : x.inRun s.strip.cfg = true) (hc : s.strip.bc ≤ c) :
    s.Steps (Fetched.run s (fetchRun x.runColour { s.strip with bc := c })) := by
  obtain ⟨hterm, hcodec⟩ := h
  refine State.steps_fetchBits (.inr ⟨x, hcodec⟩) rfl fun i used hdec => ?_
  obtain ⟨hlo, hhi, p, hp, hpi⟩ := matchCode_found hdec
  subst hpi
  dsimp only at hhi
  have hlen := peekBits_length_le s.strip.cfg.fillLsb s.strip.lin 13 c
  obtain ⟨hcmd, f, hf, hexec⟩ := exec_runCode hp
  exact State.steps_symbol hcmd (hexec _ x ⟨hterm, hcodec⟩ hhere rfl)
    (.faxRun x (c + used) f hcodec hhere hf (by omega))

theorem State.steps_fetchMode {s : State} {x : FaxState} (h : s.atFax x) (hhere : modeHere s.strip.cfg x = true) :
    s.Steps (Fetched.run s (fetchMode s.strip)) := by
  obtain ⟨hterm, hcodec⟩ := h
  refine State.steps_fetchBits (c := s.strip.bc) (.inl rfl) rfl fun i used hdec => ?_
  obtain ⟨hlo, hhi, p, hp, hpi⟩ := matchCode_found hdec
  subst hpi
  have hlen := peekBits_length_le s.strip.cfg.fillLsb s.strip.lin 10 s.strip.bc
  obtain ⟨hcmd, f, hf, hexec⟩ := exec_modeCode hp
  exact State.steps_symbol hcmd (hexec _ x ⟨hterm, hcodec⟩ hhere)
    (.faxMode x (s.strip.bc + used) f hcodec hhere hf (by omega))

theorem exec_faxEol {s : State} {x : FaxState} (h : s.atFax x) (hhere : x.phase ≠ .tag) :
    exec .faxEol s = .next { s with strip := eolStep x s.strip } :=
  h.onFax_eq (by simpa using hhere) _

theorem exec_g3Tag {s : State} {x : FaxState} (h : s.atFax x) (hhere : x.phase = .tag) (t : BitVec 1) :
    exec (.g3Tag t) s = .next { s with strip := rowTestStep (decide (t = 0)) x s.strip } :=
  h.onFax_eq (by simpa using hhere) _

theorem State.steps_seekEol {s : State} {x : FaxState} (h : s.atFax x) (hphase : x.phase = .seekEol) :
    s.Steps (Fetched.run s (fetchFax x s.strip)) := by
  obtain ⟨hterm, hcodec⟩ := h
  simp only [fetchFax, hphase]
  split
  case h_1 i used hdec =>
    obtain ⟨hi, hlo, hhi⟩ := findEol_found hdec
    subst hi
    have hlen := peekBits_length_le s.strip.cfg.fillLsb s.strip.lin s.strip.remaining s.strip.bc
    exact State.steps_symbol rfl
      (exec_faxEol (s := { s with strip := s.strip.skip used }) ⟨hterm, hcodec⟩ (by simp [hphase]))
      (.faxEol x (s.strip.bc + used) hcodec hphase (by omega))
  case h_2 => exact State.steps_quiet (.endsHere .done)

theorem State.steps_tag {s : State} {x : FaxState} (h : s.atFax x) (hphase : x.phase = .tag) :
    s.Steps (Fetched.run s (fetchFax x s.strip)) := by
  obtain ⟨hterm, hcodec⟩ := h
  simp only [fetchFax, hphase]
  split_ifs
  · exact State.steps_quiet (.endsHere .done)
  refine State.steps_fetchBits (c := s.strip.bc) (.inl rfl) rfl fun i used hdec => ?_
  rw [decode] at hdec
  obtain ⟨hlen, hfound⟩ := fixedBits_found hdec
  have hleft := hlen.trans (peekBits_length_le s.strip.cfg.fillLsb s.strip.lin 1 s.strip.bc)
  cases hfound
  exact State.steps_symbol rfl
    (exec_g3Tag (s := { s with strip := s.strip.skip 1 }) ⟨hterm, hcodec⟩ hphase _)
    (.faxTag x (s.strip.bc + 1) _ hcodec hphase (by omega))

theorem State.steps_rowStart {s : State} {x : FaxState} (h : s.atFax x) (hphase : x.phase = .rowStart) :
    s.Steps (Fetched.run s (fetchFax x s.strip)) := by
  simp only [fetchFax, hphase]
  split_ifs with hg4
  · exact State.steps_quiet (.endsHere .done)
  · exact State.steps_fetchMode h (by simp [modeHere, hphase, hg4])
  · exact State.steps_quiet (.ends s.strip.byteAlign.bc _ (.inr ⟨x, h.2⟩) .done)
  · exact State.steps_fetchRun h (by simp [FaxState.inRun, hphase, hg4]) (by omega)

theorem State.steps_rowTest {s : State} {x : FaxState} {twoD : Bool} (h : s.atFax x)
    (hphase : x.phase = .rowTest twoD) : s.Steps (Fetched.run s (fetchFax x s.strip)) := by
  simp only [fetchFax, hphase]
  split_ifs with hzeros htwo
  · exact State.steps_quiet (.endsHere .done)
  · exact State.steps_fetchMode h (by simp [modeHere, hphase, htwo])
  · exact State.steps_fetchRun h (by simp [FaxState.inRun, hphase, htwo]) (le_refl s.strip.bc)

theorem State.steps_fax {s : State} {x : FaxState} (h : s.atFax x) :
    s.Steps (Fetched.run s (fetchFax x s.strip)) := by
  have hrun (hhere : x.inRun s.strip.cfg = true) :
      s.Steps (Fetched.run s (fetchRun x.runColour s.strip)) := State.steps_fetchRun h hhere (le_refl s.strip.bc)
  cases hphase : x.phase with
  | rowStart => exact State.steps_rowStart h hphase
  | seekEol => exact State.steps_seekEol h hphase
  | tag => exact State.steps_tag h hphase
  | rowTest twoD => exact State.steps_rowTest h hphase
  | mode =>
    simp only [fetchFax, hphase]
    exact State.steps_fetchMode h (by simp [modeHere, hphase])
  | _ =>
    simp only [fetchFax, hphase]
    exact hrun (by simp [FaxState.inRun, hphase])

/-! ### The fetch of the JPEG unit -/

theorem markerByte_some {n k : Nat} {l : List Byte} {m : Byte} (h : markerByte n l = some (m, k)) :
    n < k ∧ k ≤ n + l.length := by
  induction l generalizing n with
  | nil => cases h
  | cons b l ih =>
    rw [markerByte] at h
    split_ifs at h
    · obtain ⟨hlo, hhi⟩ := ih h
      exact ⟨by omega, by rw [List.length_cons]; omega⟩
    · cases h
      exact ⟨Nat.lt_succ_self n, by rw [List.length_cons]; omega⟩

theorem State.steps_marker {s : State} {j : JpegState} {i : Instr} {m : Byte} {n : Nat} (h : s.atJpeg j)
    (hi : markerCode i = some m) (hn : 1 ≤ n ∧ n ≤ s.strip.bytes.length) :
    s.Steps (Fetched.run s (.symbol i (s.strip.skip (8 * n)))) := by
  obtain ⟨hterm, hcodec⟩ := h
  obtain ⟨f, hf⟩ := exists_markerMeaning hi
  refine State.steps_symbol hf.encodeCmd_eq ?_ (.marker j i f n hcodec hf hn)
  rw [hf.exec_eq]
  exact State.atJpeg.onMarker_eq (s := { s with strip := s.strip.skip (8 * n) }) ⟨hterm, hcodec⟩ f

/-- A marker `k` bytes after the cursor. -/
theorem State.steps_fetchMarkerFF {s : State} {j : JpegState} {ended zero noRow : ErrKind} {b : Byte}
    {rest : List Byte} {k : Nat} (h : s.atJpeg j) (hended : ended.inStream = true) (hzero : zero.inStream = true)
    (hnoRow : noRow.inStream = true) (hbytes : s.strip.bytes.drop k = b :: rest) :
    s.Steps (Fetched.run s (fetchMarkerFF ended zero noRow rest (s.strip.skip (8 * k)))) := by
  unfold fetchMarkerFF
  split
  case h_1 => exact State.steps_quiet (.endsAfter k (.error hended))
  case h_2 m n hm =>
    obtain ⟨hlo, hhi⟩ := markerByte_some hm
    have hlen := congrArg List.length hbytes
    rw [List.length_drop, List.length_cons] at hlen
    split_ifs
    · exact State.steps_quiet (.endsAfter k (.error hzero))
    split
    case h_1 i hi =>
      obtain ⟨m', hm'⟩ := exists_markerCode_of_markerInstr hi
      have hskip : (s.strip.skip (8 * k)).skip (8 * n) = s.strip.skip (8 * (k + n)) := by
        rw [Nat.mul_add]
        exact congrArg (fun c => { s.strip with bc := c }) (Nat.add_assoc _ _ _)
      rw [hskip]
      exact State.steps_marker h hm' (by omega)
    case h_2 => exact State.steps_quiet (.endsAfter k (.error hnoRow))

theorem State.steps_fetchMarker {s : State} {j : JpegState} {noRow : ErrKind} (h : s.atJpeg j)
    (hnoRow : noRow.inStream = true) : s.Steps (Fetched.run s (fetchMarker noRow s.strip)) := by
  unfold fetchMarker
  split
  case h_1 => exact State.steps_quiet (.endsHere (.error rfl))
  case h_2 b rest hbytes =>
    split_ifs
    · exact State.steps_fetchMarkerFF (k := 0) h rfl rfl hnoRow hbytes
    · exact State.steps_quiet (.endsHere (.error rfl))

theorem State.steps_fetchSoi {s : State} {j : JpegState} (h : s.atJpeg j) :
    s.Steps (Fetched.run s (fetchSoi s.strip)) := by
  unfold fetchSoi
  split
  case h_1 => exact State.steps_quiet (.endsHere (.error rfl))
  case h_2 b rest hbytes =>
    split_ifs with hsoi
    · obtain ⟨_, hhead⟩ := hsoi
      have hrest : rest ≠ [] := by rintro rfl; cases hhead
      have hpos := List.length_pos_iff.mpr hrest
      exact State.steps_marker (n := 2) h (m := 0xD8) rfl (by rw [hbytes, List.length_cons]; omega)
    · exact State.steps_quiet (.endsHere (.error rfl))

/-- The formats of entropy-coded symbols, with the place they stand in. -/
inductive EntropyFmt (j : JpegState) : Fmt → Prop
  | dc (h : HuffTable) (hzz : j.zz = []) : EntropyFmt j (.dcSymbol h)
  | ac (h : HuffTable) (hzz : j.zz ≠ []) (hk : j.zz.length < 64) : EntropyFmt j (.acSymbol h j.zz.length)

theorem entropyFmt_some {j : JpegState} {f : Fmt} (h : entropyFmt j = some f) : EntropyFmt j f := by
  obtain ⟨c, _, hc⟩ := Option.bind_eq_some_iff.mp h
  split_ifs at hc with hzz hk
  · obtain ⟨t, _, rfl⟩ := Option.map_eq_some_iff.mp hc
    exact .dc t hzz
  · obtain ⟨t, _, rfl⟩ := Option.map_eq_some_iff.mp hc
    exact .ac t hzz hk

/-- An entropy-coded symbol takes at least one bit of those at hand, and acts where it stands. -/
theorem EntropyFmt.found {j : JpegState} {f : Fmt} (h : EntropyFmt j f) {bits : List Bool} {i : Instr} {used : Nat}
    (hdec : decode f bits = .found i used) :
    1 ≤ used ∧ used ≤ bits.length ∧ encodeCmd i = none ∧ ∃ g, EntropyAction j g ∧
      ∀ (s : State) (x : JpegState), s.atJpeg x → x.phase = .entropy → x.zz = j.zz →
        exec i s = .next { s with strip := g x s.strip } := by
  cases h with
  | dc t hzz =>
    rw [decode] at hdec
    split at hdec <;> try cases hdec
    rename_i v n hv
    have hn := huffWalk_value hv
    split_ifs at hdec with hlen
    cases hdec
    refine ⟨by omega, by omega, rfl, _, .dc _ _ hzz, fun s x hx hphase hx' => hx.onJpeg_eq ?_ _⟩
    simp [symbolHere, hphase, hx', hzz]
  | ac t hzz hk =>
    rw [decode] at hdec
    split at hdec <;> try cases hdec
    rename_i v n hv
    have hn := huffWalk_value hv
    split_ifs at hdec with hlen
    cases hdec
    refine ⟨by omega, by omega, rfl, _, .ac _ _ hzz hk, fun s x hx hphase hx' => hx.onJpeg_eq ?_ _⟩
    simp [symbolHere, hphase, hx', hk, List.isEmpty_eq_false_iff.mpr hzz]

theorem exec_zlibStream {s : State} (hterm : s.strip.term = none) (hcodec : s.strip.codec = .deflate) :
    exec .zlibStream s = .next { s with strip := zlibStep Config.params s.strip } := by
  show onDeflate s _ = _
  unfold onDeflate
  rw [hterm, hcodec]

theorem fetchEntropy_found {f : Fmt} {j : JpegState} {i : Instr} {used : Nat}
    (h : decode f j.ebuf = .found i used) (n : Nat) (st : StripState) :
    fetchEntropy f n j st = .symbol i { st with codec := .jpeg { j with ebuf := j.ebuf.drop used } } := by
  unfold fetchEntropy
  rw [h]

theorem fetchEntropy_bad {f : Fmt} {j : JpegState} (h : decode f j.ebuf = .bad) (n : Nat) (st : StripState) :
    fetchEntropy f n j st = .quiet (st.fail .jpegBadHuff) := by
  unfold fetchEntropy
  rw [h]

theorem fetchEntropy_short_nil {f : Fmt} {j : JpegState} {st : StripState} (h : decode f j.ebuf = .short)
    (hbytes : st.bytes = []) (n : Nat) : fetchEntropy f n j st = .quiet (st.fail .truncated) := by
  unfold fetchEntropy
  rw [h, hbytes]
  cases n <;> rfl

theorem fetchEntropy_short_zero {f : Fmt} {j : JpegState} (h : decode f j.ebuf = .short) (st : StripState) :
    fetchEntropy f 0 j st = .quiet (st.fail .truncated) := by
  unfold fetchEntropy
  rw [h]

theorem fetchEntropy_short_cons {f : Fmt} {j : JpegState} {st : StripState} {b : Byte} {rest : List Byte}
    (h : decode f j.ebuf = .short) (hbytes : st.bytes = b :: rest) (n : Nat) :
    fetchEntropy f (n + 1) j st =
      if b ≠ 0xFF then fetchEntropy f n { j with ebuf := j.ebuf ++ cw 8 b.toNat } (st.skip 8)
      else if rest.head? = some 0 then .symbol .jpegStuff ({ st with codec := .jpeg j }.skip 16)
      else fetchMarkerFF .jpegBadData .jpegBadData .jpegBadData rest st := by
  rw [fetchEntropy.eq_def]
  simp only [h, hbytes]

theorem State.steps_entropyFound {s : State} {j : JpegState} {f : Fmt} {k used : Nat} {ebuf : List Bool} {i : Instr}
    (h : s.atJpeg j) (hphase : j.phase = .entropy) (hf : EntropyFmt j f)
    (hebuf : ebuf.length = j.ebuf.length + 8 * k) (hk : k ≤ s.strip.bytes.length)
    (hdec : decode f ebuf = .found i used) (n : Nat) :
    s.Steps (Fetched.run s (fetchEntropy f n { j with ebuf } (s.strip.skip (8 * k)))) := by
  obtain ⟨hterm, hcodec⟩ := h
  obtain ⟨hlo, hhi, hcmd, g, hg, hexec⟩ := hf.found hdec
  have hrest : (ebuf.drop used).length + used = j.ebuf.length + 8 * k := by
    rw [List.length_drop]
    omega
  rw [fetchEntropy_found hdec]
  exact State.steps_symbol hcmd (hexec _ { j with ebuf := ebuf.drop used } ⟨hterm, rfl⟩ hphase rfl)
    (.entropy j (ebuf.drop used) k used g hcodec hphase hg hrest hlo hk)

/-- The entropy reader, `k` bytes after the cursor, its bit buffer holding what they added. -/
theorem State.steps_fetchEntropy {s : State} {j : JpegState} {f : Fmt} (h : s.atJpeg j)
    (hphase : j.phase = .entropy) (hf : EntropyFmt j f) (n : Nat) :
    ∀ (k : Nat) (ebuf : List Bool), ebuf.length = j.ebuf.length + 8 * k → k ≤ s.strip.bytes.length →
      s.Steps (Fetched.run s (fetchEntropy f n { j with ebuf } (s.strip.skip (8 * k)))) := by
  have hplace := h
  obtain ⟨hterm, hcodec⟩ := h
  induction n with
  | zero =>
    intro k ebuf hebuf hk
    rcases hdec : decode f ebuf with ⟨i, used⟩ | _ | _
    · exact State.steps_entropyFound hplace hphase hf hebuf hk hdec 0
    · rw [fetchEntropy_bad hdec]
      exact State.steps_quiet (.endsAfter k (.error rfl))
    · rw [fetchEntropy_short_zero hdec]
      exact State.steps_quiet (.endsAfter k (.error rfl))
  | succ n ih =>
    intro k ebuf hebuf hk
    rcases hdec : decode f ebuf with ⟨i, used⟩ | _ | _
    · exact State.steps_entropyFound hplace hphase hf hebuf hk hdec (n + 1)
    · rw [fetchEntropy_bad hdec]
      exact State.steps_quiet (.endsAfter k (.error rfl))
    have hbytes := s.strip.bytes_skip k
    cases hdrop : s.strip.bytes.drop k with
    | nil =>
      rw [fetchEntropy_short_nil hdec (hbytes.trans hdrop)]
      exact State.steps_quiet (.endsAfter k (.error rfl))
    | cons b rest =>
      have hlen := congrArg List.length hdrop
      rw [List.length_drop, List.length_cons] at hlen
      have hskip : (s.strip.skip (8 * k)).skip 8 = s.strip.skip (8 * (k + 1)) :=
        congrArg (fun c => { s.strip with bc := c }) (by rw [StripState.skip_bc]; omega)
      rw [fetchEntropy_short_cons hdec (hbytes.trans hdrop)]
      split_ifs with hplain hstuff
      · rw [hskip]
        refine ih (k + 1) _ ?_ (by omega)
        rw [List.length_append, cw_length]
        dsimp only
        omega
      · have hrest : rest ≠ [] := by rintro rfl; cases hstuff
        have hpos := List.length_pos_iff.mpr hrest
        have hcursor : s.strip.bc + 8 * k + 16 = s.strip.bc + 8 * (k + 2) := by omega
        refine State.steps_symbol rfl
          (State.atJpeg.onMarker_eq (j := { j with ebuf })
            (s := { s with strip := { s.strip with bc := s.strip.bc + 8 * k + 16, codec := .jpeg { j with ebuf } } })
            ⟨hterm, rfl⟩ stuffStep) ?_
        have hresult := UnitResult.stuff j ebuf k hcodec hphase hebuf (by omega)
        rwa [← hcursor] at hresult
      · exact State.steps_fetchMarkerFF hplace rfl rfl rfl hdrop

theorem State.steps_jpeg {s : State} {j : JpegState} (h : s.atJpeg j) :
    s.Steps (Fetched.run s (fetchJpeg j s.strip)) := by
  unfold fetchJpeg
  split
  case h_1 => exact State.steps_fetchSoi h
  case h_2 => exact State.steps_fetchMarker h rfl
  case h_3 => exact State.steps_fetchMarker h rfl
  case h_4 => exact State.steps_fetchMarker h rfl
  case h_5 hphase =>
    split
    case h_1 f hf =>
      exact State.steps_fetchEntropy h hphase (entropyFmt_some hf) _ 0 j.ebuf rfl (Nat.zero_le _)
    case h_2 => exact State.steps_quiet (.endsHere (.error rfl))

/-! ### Every step of a unit -/

/-- A step of a stream that has not ended is always taken, and leaves what `UnitResult` says (log 21). -/
theorem unitStep_result {s : State} (hterm : s.strip.term = none) :
    ∃ st, unitStep s = .next { s with strip := st } ∧ UnitResult s.strip st := by
  rw [unitStep_eq_run, fetch]
  split
  case h_1 => exact State.steps_quiet (.endsHere .done)
  case h_2 z hcodec => exact State.steps_lzw ⟨hterm, hcodec⟩
  case h_3 hcodec => exact State.steps_packBits ⟨hterm, hcodec⟩
  case h_4 x hcodec => exact State.steps_fax ⟨hterm, hcodec⟩
  case h_5 v hcodec => exact State.steps_logLuv ⟨hterm, hcodec⟩
  case h_6 j hcodec => exact State.steps_jpeg ⟨hterm, hcodec⟩
  case h_7 hcodec =>
    refine State.steps_symbol (i := .zlibStream) rfl ?_ (.deflate hcodec)
    exact exec_zlibStream hterm hcodec

theorem UnitResult.of_unitStep {s t : State} (hterm : s.strip.term = none) (h : unitStep s = .next t) :
    UnitResult s.strip t.strip := by
  obtain ⟨st, hst, hresult⟩ := unitStep_result hterm
  rw [hst] at h
  cases h
  exact hresult

end Sys2Proof.Machine

/-! What an action of a unit leaves of its strip. -/

namespace Sys2Proof.Machine

open Sys2Proof Host

/-- What an action of a unit leaves: whole bytes more are read and bytes `b` more are emitted, and the unit goes on
in a codec state for which `Q b` holds, or its stream ends, with nothing emitted or in such a codec state. -/
inductive StripState.Leaves (st : StripState) (Q : List Byte → CodecState → Prop) : StripState → Prop
  | goesOn (n : Nat) (b : List Byte) (c : CodecState) (h : Q b c) :
      Leaves st Q { st with bc := st.bc + 8 * n, emitted := st.emitted ++ b, codec := c }
  | ends (n : Nat) (b : List Byte) (t : Terminator) (h : t.InStream) (hb : b = [] ∨ Q b st.codec) :
      Leaves st Q { st with bc := st.bc + 8 * n, emitted := st.emitted ++ b, term := some t }

section Leaves

variable {st st' : StripState} {Q : List Byte → CodecState → Prop}

theorem StripState.Leaves.emits {b : List Byte} {c : CodecState} (h : Q b c) :
    st.Leaves Q { st with emitted := st.emitted ++ b, codec := c } :=
  .goesOn 0 b c h

theorem StripState.Leaves.codec {c : CodecState} (h : Q [] c) : st.Leaves Q { st with codec := c } := by
  have hgoes : st.Leaves Q { st with emitted := st.emitted ++ [], codec := c } := .emits h
  rwa [List.append_nil] at hgoes

theorem StripState.Leaves.stop {t : Terminator} (h : t.InStream) : st.Leaves Q (st.stop t) := by
  have hends : st.Leaves Q { st with emitted := st.emitted ++ [], term := some t } := .ends 0 [] t h (.inl rfl)
  rwa [List.append_nil] at hends

theorem StripState.Leaves.fail {k : ErrKind} (h : k.inStream = true) : st.Leaves Q (st.fail k) :=
  .stop (.error h)

/-- An action after whole bytes. -/
theorem StripState.Leaves.skip (n : Nat) (h : (st.skip (8 * n)).Leaves Q st') : st.Leaves Q st' := by
  cases h with
  | goesOn m b c h =>
    have hgoes := StripState.Leaves.goesOn (st := st) (n + m) b c h
    rwa [Nat.mul_add, ← Nat.add_assoc] at hgoes
  | ends m b t h hb =>
    have hends := StripState.Leaves.ends (st := st) (Q := Q) (n + m) b t h hb
    rwa [Nat.mul_add, ← Nat.add_assoc] at hends

theorem StripState.Leaves.frame (h : st.Leaves Q st') :
    st'.cfg = st.cfg ∧ st'.lin = st.lin ∧ (∃ b, st'.emitted = st.emitted ++ b) ∧ (∃ n, st'.bc = st.bc + 8 * n) ∧
      (st'.term = st.term ∨ ∃ t, st'.term = some t ∧ t.InStream) := by
  cases h with
  | goesOn n b c h => exact ⟨rfl, rfl, ⟨b, rfl⟩, ⟨n, rfl⟩, .inl rfl⟩
  | ends n b t h hb => exact ⟨rfl, rfl, ⟨b, rfl⟩, ⟨n, rfl⟩, .inr ⟨t, rfl, h⟩⟩

/-- Where the codec state or the bytes emitted change, `Q` holds of both. -/
theorem StripState.Leaves.codec_cases (h : st.Leaves Q st') :
    (st'.codec = st.codec ∧ st'.emitted = st.emitted) ∨
      ∃ b, st'.emitted = st.emitted ++ b ∧ Q b st'.codec := by
  cases h with
  | goesOn n b c h => exact .inr ⟨b, rfl, h⟩
  | ends n b t h hb =>
    rcases hb with rfl | hb
    · exact .inl ⟨rfl, List.append_nil _⟩
    · exact .inr ⟨b, rfl, hb⟩

end Leaves

/-! ### PackBits, deflate and LogLuv -/

theorem PackBitsAction.leaves {f : StripState → StripState} (h : PackBitsAction f) (st : StripState)
    (hcodec : st.codec = .packBits) : st.Leaves (fun _ c => c = .packBits) (f st) := by
  cases h with
  | literal n =>
    unfold pbLiteralStep
    split_ifs
    · exact .fail rfl
    · rw [← hcodec]
      exact .goesOn n _ st.codec rfl
  | nop =>
    exact .codec (c := st.codec) hcodec
  | copies n =>
    unfold pbRepeatStep
    split
    · exact .fail rfl
    · rw [← hcodec]
      exact .goesOn 1 _ st.codec rfl

theorem zlibStep_eq (P : Params) (st : StripState) : zlibStep P st =
    { st with
      emitted := st.emitted ++ (inflate P st.lin).1
      term := some (if (inflate P st.lin).2 then .done else .error .inflate) } := rfl

theorem zlibStep_leaves (P : Params) {st : StripState} (hcodec : st.codec = .deflate) :
    st.Leaves (fun _ c => c = .deflate) (zlibStep P st) := by
  rw [zlibStep_eq]
  refine .ends 0 _ _ ?_ (.inr hcodec)
  split_ifs
  · exact .done
  · exact .error rfl

/-- A codec state of the LogLuv unit. -/
def CodecState.IsLogLuv (c : CodecState) : Prop := ∃ v, c = .logLuv v

theorem planeStep_leaves (P : Params) (v : LogLuvState) (b : List Byte) (st : StripState) :
    st.Leaves (fun _ c => c.IsLogLuv) (planeStep P v b st) := by
  unfold planeStep
  dsimp only
  split_ifs
  · exact .codec ⟨_, rfl⟩
  · exact .codec ⟨_, rfl⟩
  · exact .emits ⟨_, rfl⟩

theorem LogLuvAction.leaves {f : LogLuvState → StripState → StripState} (h : LogLuvAction f) (v : LogLuvState)
    (st : StripState) : st.Leaves (fun _ c => c.IsLogLuv) (f v st) := by
  cases h with
  | run n =>
    unfold logLuvRunStep
    split
    · exact .fail rfl
    split_ifs
    · exact .fail rfl
    · exact .skip 1 (planeStep_leaves _ _ _ _)
  | literal n =>
    unfold logLuvLiteralStep
    split_ifs
    · exact .fail rfl
    · exact .fail rfl
    · exact .skip n (planeStep_leaves _ _ _ _)

theorem rawRowStep_leaves (P : Params) {st : StripState} {v : LogLuvState} (hcodec : st.codec = .logLuv v) :
    st.Leaves (fun _ c => c.IsLogLuv) (rawRowStep P st) := by
  unfold rawRowStep
  dsimp only
  split_ifs
  · exact .stop .done
  · exact .fail rfl
  · exact .goesOn (3 * st.cfg.w) _ st.codec ⟨v, hcodec⟩

/-! ### LZW (spec/42_lzw.md R150 to R165) -/

/-- The dictionary with one more entry. -/
def LzwState.push (z : LzwState) (e : LzwEntry) : LzwState :=
  { z with dict := z.dict ++ [e] }

section Lzw

variable {z : LzwState} {c p : Nat}

theorem LzwState.entry?_of_lt (h : c < 258) (z : LzwState) : z.entry? c = none := if_pos h

theorem LzwState.entry?_of_le (h : 258 ≤ c) (z : LzwState) : z.entry? c = z.dict[c - 258]? :=
  if_neg (Nat.not_lt.mpr h)

/-- A code that names an entry has one. -/
theorem LzwState.names.entry? (h : z.names c) (hc : 256 ≤ c) :
    258 ≤ c ∧ ∃ e, z.dict[c - 258]? = some e ∧ z.entry? c = some e := by
  rcases h with h | ⟨hlo, hhi⟩
  · omega
  have hlt : c - 258 < z.dict.length := by unfold LzwState.nextFree at hhi; omega
  have hsome := List.getElem?_eq_getElem hlt
  exact ⟨hlo, _, hsome, (LzwState.entry?_of_le hlo z).trans hsome⟩

/-- What is said of a code depends on the entry it names only. -/
theorem LzwState.len_congr {z' : LzwState} (h : z.entry? c = z'.entry? c) : z.len c = z'.len c := by
  unfold LzwState.len
  rw [h]

theorem LzwState.first_congr {z' : LzwState} (h : z.entry? c = z'.entry? c) : z.first c = z'.first c := by
  unfold LzwState.first
  rw [h]

theorem LzwState.entry?_push (hc : c < z.nextFree) (e : LzwEntry) : (z.push e).entry? c = z.entry? c := by
  rcases lt_or_ge c 258 with h | h
  · rw [LzwState.entry?_of_lt h, LzwState.entry?_of_lt h]
  · have hlt : c - 258 < z.dict.length := by unfold LzwState.nextFree at hc; omega
    rw [LzwState.entry?_of_le h, LzwState.entry?_of_le h]
    exact List.getElem?_append_left hlt

theorem LzwState.entry?_push_nextFree (z : LzwState) (e : LzwEntry) :
    (z.push e).entry? z.nextFree = some e := by
  unfold LzwState.nextFree
  rw [LzwState.entry?_of_le (Nat.le_add_right 258 _), Nat.add_sub_cancel_left]
  exact List.getElem?_concat_length

@[simp] theorem LzwState.nextFree_push (z : LzwState) (e : LzwEntry) : (z.push e).nextFree = z.nextFree + 1 := by
  simp [LzwState.nextFree, LzwState.push]
  omega

theorem LzwState.names.lt_nextFree (h : z.names c) : c < z.nextFree := by
  unfold LzwState.names LzwState.nextFree at h
  unfold LzwState.nextFree
  omega

theorem LzwState.names.push (h : z.names c) (e : LzwEntry) : (z.push e).names c := by
  unfold LzwState.names at h ⊢
  rw [LzwState.nextFree_push]
  omega

/-! The width update changes the width only. -/

@[simp] theorem LzwState.widen_dict (z : LzwState) : z.widen.dict = z.dict := by
  unfold LzwState.widen; split_ifs <;> rfl
@[simp] theorem LzwState.widen_prev (z : LzwState) : z.widen.prev = z.prev := by
  unfold LzwState.widen; split_ifs <;> rfl
@[simp] theorem LzwState.widen_old (z : LzwState) : z.widen.old = z.old := by
  unfold LzwState.widen; split_ifs <;> rfl
@[simp] theorem LzwState.widen_nextFree (z : LzwState) : z.widen.nextFree = z.nextFree := by
  simp [LzwState.nextFree]
@[simp] theorem LzwState.widen_entry? (z : LzwState) (c : Nat) : z.widen.entry? c = z.entry? c := by
  simp [LzwState.entry?]

/-- The entry that an addition makes. -/
def LzwState.newEntry (z : LzwState) (p : Nat) (f : Byte) : LzwEntry where
  pre := p
  suffix := f
  length := z.len p + 1
  first := z.first p

theorem LzwState.add_of_lt (h : z.nextFree < 4096) (p : Nat) (f : Byte) :
    z.add p f = (z.push (z.newEntry p f)).widen := if_pos h

theorem LzwState.add_of_full (h : ¬ z.nextFree < 4096) (p : Nat) (f : Byte) : z.add p f = z := if_neg h

@[simp] theorem LzwState.add_prev (z : LzwState) (p : Nat) (f : Byte) : (z.add p f).prev = z.prev := by
  unfold LzwState.add
  split_ifs
  · exact LzwState.widen_prev _
  · rfl

theorem LzwState.names.add (h : z.names c) (p : Nat) (f : Byte) : (z.add p f).names c := by
  by_cases hfree : z.nextFree < 4096
  · rw [LzwState.add_of_lt hfree]
    simpa [LzwState.names] using h.push (z.newEntry p f)
  · rwa [LzwState.add_of_full hfree]

/-! ### The state of R152 is kept -/

/-- A wider code has room for more codes. -/
theorem LzwState.codeSpace_lt_succ (old : Bool) {n : Nat} (hn : 9 ≤ n) :
    (if old then 2 ^ n else 2 ^ n - 1) < (if old then 2 ^ (n + 1) else 2 ^ (n + 1) - 1) := by
  have hpow : 2 ^ (n + 1) = 2 * 2 ^ n := Nat.pow_succ'
  have hpos : 2 ^ 9 ≤ 2 ^ n := Nat.pow_le_pow_right (by decide) hn
  split_ifs <;> omega

/-- The width update answers a width that the codes below nextFree fit (R155). -/
theorem LzwState.widen_fit (hwidth : 9 ≤ z.nbits ∧ z.nbits ≤ 12)
    (h : z.nbits = 12 ∨ z.nextFree ≤ (if z.old then 2 ^ z.nbits else 2 ^ z.nbits - 1)) :
    (9 ≤ z.widen.nbits ∧ z.widen.nbits ≤ 12) ∧
      (z.widen.nbits = 12 ∨
        z.widen.nextFree < (if z.widen.old then 2 ^ z.widen.nbits else 2 ^ z.widen.nbits - 1)) := by
  rw [LzwState.widen_nextFree, LzwState.widen_old]
  unfold LzwState.widen
  by_cases hgrow : z.nextFree = (if z.old then 2 ^ z.nbits else 2 ^ z.nbits - 1) ∧ z.nbits < 12
  · rw [if_pos hgrow]
    obtain ⟨hfree, hlt⟩ := hgrow
    exact ⟨⟨Nat.le_succ_of_le hwidth.1, hlt⟩, .inr (hfree.trans_lt (LzwState.codeSpace_lt_succ z.old hwidth.1))⟩
  · rw [if_neg hgrow]
    exact ⟨hwidth, by omega⟩

theorem LzwState.Wf.add (hz : z.Wf) (hp : z.names p) (f : Byte) : (z.add p f).Wf := by
  by_cases hfree : z.nextFree < 4096
  case neg => rwa [LzwState.add_of_full hfree]
  rw [LzwState.add_of_lt hfree]
  have hgrown : z.nbits = 12 ∨ (z.push (z.newEntry p f)).nextFree ≤
      (if z.old then 2 ^ z.nbits else 2 ^ z.nbits - 1) := by
    rw [LzwState.nextFree_push]
    exact hz.fit.imp_right fun h => h
  have hwiden : ∀ c, (z.push (z.newEntry p f)).widen.entry? c = (z.push (z.newEntry p f)).entry? c :=
    LzwState.widen_entry? _
  obtain ⟨hwidth, hfit⟩ := LzwState.widen_fit (z := z.push (z.newEntry p f)) hz.width hgrown
  refine ⟨hwidth, ?size, hfit, fun i e hi => ?entries, fun q hq => ?prev⟩
  case size =>
    rw [LzwState.widen_nextFree, LzwState.nextFree_push]
    exact hfree
  case prev =>
    have hq' : z.names q := hz.prev q (by simpa [LzwState.push] using hq)
    simpa [LzwState.names] using hq'.push (z.newEntry p f)
  case entries =>
    have hkept {q : Nat} (hq : q < z.nextFree) :
        (z.push (z.newEntry p f)).widen.len q = z.len q ∧
          (z.push (z.newEntry p f)).widen.first q = z.first q := by
      have hentry := (hwiden q).trans (LzwState.entry?_push hq (z.newEntry p f))
      exact ⟨LzwState.len_congr hentry, LzwState.first_congr hentry⟩
    rw [LzwState.widen_dict] at hi
    rcases lt_or_ge i z.dict.length with hlt | hge
    · have hold : z.dict[i]? = some e := (List.getElem?_append_left hlt).symm.trans hi
      obtain ⟨hpre, hlength, hfirst⟩ := hz.entries i e hold
      obtain ⟨hlen, hfst⟩ := hkept (q := e.pre) (by unfold LzwState.nextFree; omega)
      rw [hlen, hfst]
      exact ⟨hpre, hlength, hfirst⟩
    · have hi' : i < z.dict.length + 1 := by
        obtain ⟨hlt, _⟩ := List.getElem?_eq_some_iff.mp hi
        simpa [LzwState.push] using hlt
      obtain rfl : i = z.dict.length := by omega
      have he : z.newEntry p f = e := by
        rw [show (z.push (z.newEntry p f)).dict = z.dict ++ [z.newEntry p f] from rfl,
          List.getElem?_concat_length] at hi
        exact Option.some.inj hi
      obtain ⟨hlen, hfst⟩ := hkept hp.lt_nextFree
      subst he
      exact ⟨hp.imp_right fun h => h, congrArg (· + 1) hlen.symm, hfst.symm⟩

theorem LzwState.Wf.withPrev (hz : z.Wf) (hc : z.names c) : (z.withPrev c).Wf :=
  ⟨hz.width, hz.size, hz.fit, hz.entries, by rintro _ ⟨⟩; exact hc⟩

theorem LzwState.Wf.clear (_hz : z.Wf) : z.clear.Wf := by
  refine ⟨⟨le_refl 9, show 9 ≤ 12 by decide⟩, show 258 ≤ 4096 by decide, .inr ?_, nofun, nofun⟩
  show (258 : Nat) < if z.old then 512 else 511
  split_ifs <;> decide

theorem LzwState.init_wf (lin : List Byte) : (LzwState.init lin).Wf := by
  refine ⟨⟨le_refl 9, show 9 ≤ 12 by decide⟩, show 258 ≤ 4096 by decide, .inr ?_, nofun, nofun⟩
  show (258 : Nat) < if oldVariant lin then 512 else 511
  split_ifs <;> decide

/-! ### What each code does (R156 to R162) -/

theorem lzwEmit_eq (c : Nat) (str : List Byte) (f : Byte) (z : LzwState) (st : StripState) :
    lzwEmit c str f z st =
      { st with
        emitted := st.emitted ++ str
        codec := .lzw ((z.prev.elim z fun p => z.add p f).withPrev c) } := by
  unfold lzwEmit
  cases z.prev <;> rfl

theorem lzwDictStep_of_none (h : z.prev = none) (c : Nat) (st : StripState) :
    lzwDictStep c z st = st.fail .lzwBadCode := by
  unfold lzwDictStep
  rw [h]

theorem lzwKwkwkStep_of_none (h : z.prev = none) (c : Nat) (st : StripState) :
    lzwKwkwkStep c z st = st.fail .lzwBadCode := by
  unfold lzwKwkwkStep
  rw [h]

theorem lzwDictStep_of_some (h : z.prev = some p) (c : Nat) (st : StripState) :
    lzwDictStep c z st =
      if 258 ≤ c ∧ c < z.nextFree then lzwEmit c (z.str c) (z.first c) z st else st.fail .lzwBadCode := by
  unfold lzwDictStep
  rw [h]

theorem lzwKwkwkStep_of_some (h : z.prev = some p) (c : Nat) (st : StripState) :
    lzwKwkwkStep c z st =
      if c = z.nextFree ∧ z.nextFree < 4096 then lzwEmit c (z.str p ++ [z.first p]) (z.first p) z st
      else st.fail .lzwBadCode := by
  unfold lzwKwkwkStep
  rw [h]

/-- The state after a code whose string is emitted is sound where the code then names a string. -/
theorem LzwState.Wf.afterEmit (hz : z.Wf) (f : Byte) (hc : (z.prev.elim z fun p => z.add p f).names c) :
    ((z.prev.elim z fun p => z.add p f).withPrev c).Wf := by
  refine LzwState.Wf.withPrev ?_ hc
  cases hprev : z.prev with
  | none => exact hz
  | some p => exact hz.add (hz.prev p hprev) f

theorem lzwEmit_leaves (str : List Byte) (f : Byte) (st : StripState)
    (hc : z.Wf → (z.prev.elim z fun p => z.add p f).names c) :
    st.Leaves (fun _ d => ∃ z', d = .lzw z' ∧ (z.Wf → z'.Wf)) (lzwEmit c str f z st) := by
  rw [lzwEmit_eq]
  exact .emits ⟨_, rfl, fun hz => hz.afterEmit f (hc hz)⟩

theorem LzwState.names.afterAdd (h : z.names c) (f : Byte) : (z.prev.elim z fun p => z.add p f).names c := by
  cases z.prev with
  | none => exact h
  | some p => exact h.add p f

/-- What each LZW code leaves, a sound state sound. -/
theorem LzwAction.leaves {f : LzwState → StripState → StripState} (h : LzwAction f) (z : LzwState)
    (st : StripState) : st.Leaves (fun _ d => ∃ z', d = .lzw z' ∧ (z.Wf → z'.Wf)) (f z st) := by
  cases h with
  | literal c => exact lzwEmit_leaves [c] c st fun _ => LzwState.names.afterAdd (.inl c.isLt) c
  | clear => exact .codec ⟨z.clear, rfl, LzwState.Wf.clear⟩
  | eoi => exact .stop .done
  | bad => exact .fail rfl
  | dict c =>
    cases hprev : z.prev with
    | none => rw [lzwDictStep_of_none hprev]; exact .fail rfl
    | some p =>
      rw [lzwDictStep_of_some hprev]
      split_ifs with hc
      · exact lzwEmit_leaves _ _ st fun _ => LzwState.names.afterAdd (.inr hc) _
      · exact .fail rfl
  | kwkwk c =>
    cases hprev : z.prev with
    | none => rw [lzwKwkwkStep_of_none hprev]; exact .fail rfl
    | some p =>
      rw [lzwKwkwkStep_of_some hprev]
      split_ifs with hc
      · obtain ⟨rfl, hfree⟩ := hc
        refine lzwEmit_leaves _ _ st fun _ => ?_
        rw [hprev, Option.elim_some, LzwState.add_of_lt hfree]
        unfold LzwState.names
        rw [LzwState.widen_nextFree, LzwState.nextFree_push]
        exact .inr ⟨Nat.le_add_right 258 _, Nat.lt_succ_self _⟩
      · exact .fail rfl

end Lzw

/-- Settles O28: each code's arm at its place; a literal emits through `lzwEmit`. -/
theorem lzwLiteralClearEoiBad : Obligations.LzwLiteralClearEoiBad := by
  intro s z hs
  refine ⟨fun c => ?literal, hs.onLzw_eq lzwClearStep, hs.onLzw_eq lzwEoiStep, fun c => hs.onLzw_eq lzwBadStep⟩
  case literal =>
    have hstep : lzwLiteralStep c z s.strip = _ := lzwEmit_eq c.toNat [c] c z s.strip
    rw [← hstep]
    exact hs.onLzw_eq (lzwLiteralStep c)

/-- Settles O29: with no previous code both are bad codes; after one the string is emitted through `lzwEmit`. The
code of nextFree is of 12 bits, so the dictionary has room for its entry. -/
theorem lzwDictAndKwkwk : Obligations.LzwDictAndKwkwk := by
  intro s z c hs
  have hdict : exec (.lzwDict c) s = .next { s with strip := lzwDictStep c.toNat z s.strip } := hs.onLzw_eq _
  have hkwkwk : exec (.lzwKwkwk c) s = .next { s with strip := lzwKwkwkStep c.toNat z s.strip } := hs.onLzw_eq _
  refine ⟨fun hprev => ⟨?dictNone, ?kwkwkNone⟩, fun p hprev => ⟨fun hlo hhi => ?dict, fun hc => ?kwkwk⟩⟩
  case dictNone => rw [hdict, lzwDictStep_of_none hprev]; rfl
  case kwkwkNone => rw [hkwkwk, lzwKwkwkStep_of_none hprev]; rfl
  case dict => rw [hdict, lzwDictStep_of_some hprev, if_pos ⟨hlo, hhi⟩, lzwEmit_eq, hprev, Option.elim_some]
  case kwkwk =>
    have hroom : z.nextFree < 4096 := hc ▸ c.isLt
    rw [hkwkwk, lzwKwkwkStep_of_some hprev, if_pos ⟨hc, hroom⟩, lzwEmit_eq, hprev, Option.elim_some]

/-! ### Strings (R154, R157) -/

section Strings

variable {z : LzwState} {c : Nat}

/-- How many entries the string of a code passes through at most. -/
def LzwState.depth (c : Nat) : Nat := c - 257

theorem LzwState.strAux_of_byte (h : c < 256) (z : LzwState) (n : Nat) :
    z.strAux (n + 1) c = [BitVec.ofNat 8 c] := if_pos h

theorem LzwState.strAux_of_entry {e : LzwEntry} (hc : 256 ≤ c) (h : z.entry? c = some e) (n : Nat) :
    z.strAux (n + 1) c = z.strAux n e.pre ++ [e.suffix] := by
  rw [LzwState.strAux, if_neg (Nat.not_lt.mpr hc), h]

theorem LzwState.len_of_byte (h : c < 256) (z : LzwState) : z.len c = 1 := if_pos h

theorem LzwState.first_of_byte (h : c < 256) (z : LzwState) : z.first c = BitVec.ofNat 8 c := if_pos h

theorem LzwState.len_of_entry {e : LzwEntry} (hc : 256 ≤ c) (h : z.entry? c = some e) : z.len c = e.length := by
  rw [LzwState.len, if_neg (Nat.not_lt.mpr hc), h]

theorem LzwState.first_of_entry {e : LzwEntry} (hc : 256 ≤ c) (h : z.entry? c = some e) :
    z.first c = e.first := by
  rw [LzwState.first, if_neg (Nat.not_lt.mpr hc), h]

/-- Codes that name strings are bytes, or extend an earlier one by a byte: induction over a sound dictionary. -/
theorem LzwState.Wf.names_induction (hz : z.Wf) {motive : Nat → Prop} (byte : ∀ c < 256, motive c)
    (entry : ∀ c e, 256 ≤ c → z.entry? c = some e → z.names e.pre → depth e.pre < depth c →
      e.length = z.len e.pre + 1 → e.first = z.first e.pre → motive e.pre → motive c) (hc : z.names c) :
    motive c := by
  induction c using Nat.strong_induction_on with
  | _ c ih =>
    rcases lt_or_ge c 256 with hlt | hge
    · exact byte c hlt
    obtain ⟨h258, e, hdict, hentry⟩ := hc.entry? hge
    obtain ⟨hpre, hlength, hfirst⟩ := hz.entries _ e hdict
    have hnames : z.names e.pre := by
      have := hc.lt_nextFree
      unfold LzwState.names
      omega
    exact entry c e hge hentry hnames (by unfold depth; omega) hlength hfirst (ih e.pre (by omega) hnames)

/-- The string of a code has the length and first byte its entry says, for every bound that is no less than the
entries it passes through. -/
theorem LzwState.Wf.strAux_spec (hz : z.Wf) (hc : z.names c) : ∀ n, depth c < n →
    (z.strAux n c).length = z.len c ∧ (z.strAux n c).head? = some (z.first c) ∧ 1 ≤ z.len c := by
  refine hz.names_induction (motive := fun c => ∀ n, depth c < n →
    (z.strAux n c).length = z.len c ∧ (z.strAux n c).head? = some (z.first c) ∧ 1 ≤ z.len c) ?byte ?entry hc
  case byte =>
    intro c hlt n hn
    obtain ⟨n, rfl⟩ := Nat.exists_eq_succ_of_ne_zero (Nat.ne_of_gt (Nat.zero_lt_of_lt hn))
    rw [LzwState.strAux_of_byte hlt, LzwState.len_of_byte hlt, LzwState.first_of_byte hlt]
    exact ⟨rfl, rfl, le_refl 1⟩
  case entry =>
    intro c e hge hentry _ hdepth hlength hfirst ih n hn
    obtain ⟨n, rfl⟩ := Nat.exists_eq_succ_of_ne_zero (Nat.ne_of_gt (Nat.zero_lt_of_lt hn))
    obtain ⟨hlen, hhead, _⟩ := ih n (by omega)
    rw [LzwState.strAux_of_entry hge hentry, LzwState.len_of_entry hge hentry, LzwState.first_of_entry hge hentry,
      hlength, hfirst, List.length_append, hlen, List.head?_append, hhead]
    exact ⟨rfl, rfl, Nat.le_add_left 1 _⟩

/-- The string of a code does not depend on the bound, nor on later entries. -/
theorem LzwState.Wf.strAux_congr (hz : z.Wf) {z' : LzwState} (hentries : ∀ q < z.nextFree, z'.entry? q = z.entry? q)
    (hc : z.names c) : ∀ n m, depth c < n → depth c < m → z'.strAux n c = z.strAux m c := by
  refine hz.names_induction
    (motive := fun c => ∀ n m, depth c < n → depth c < m → z'.strAux n c = z.strAux m c) ?byte ?entry hc
  case byte =>
    intro c hlt n m hn hm
    obtain ⟨n, rfl⟩ := Nat.exists_eq_succ_of_ne_zero (Nat.ne_of_gt (Nat.zero_lt_of_lt hn))
    obtain ⟨m, rfl⟩ := Nat.exists_eq_succ_of_ne_zero (Nat.ne_of_gt (Nat.zero_lt_of_lt hm))
    rw [LzwState.strAux_of_byte hlt, LzwState.strAux_of_byte hlt]
  case entry =>
    intro c e hge hentry hnames hdepth _ _ ih n m hn hm
    obtain ⟨n, rfl⟩ := Nat.exists_eq_succ_of_ne_zero (Nat.ne_of_gt (Nat.zero_lt_of_lt hn))
    obtain ⟨m, rfl⟩ := Nat.exists_eq_succ_of_ne_zero (Nat.ne_of_gt (Nat.zero_lt_of_lt hm))
    have hlt : c < z.nextFree := by
      rw [LzwState.entry?_of_le (by unfold depth at hdepth; omega)] at hentry
      obtain ⟨hlt, _⟩ := List.getElem?_eq_some_iff.mp hentry
      unfold LzwState.nextFree
      omega
    rw [LzwState.strAux_of_entry hge ((hentries c hlt).trans hentry), LzwState.strAux_of_entry hge hentry,
      ih n m (by omega) (by omega)]

theorem LzwState.names.depth_lt (h : z.names c) : depth c < z.dict.length + 1 := by
  have hlt := h.lt_nextFree
  unfold LzwState.nextFree at hlt
  unfold depth
  omega

end Strings

/-- Settles O30: by induction over the entries that a string passes through; the string of a new entry is that of
the code it extends, on which the addition has no effect. -/
theorem lzwStrings : Obligations.LzwStrings := by
  intro z c hz hc
  obtain ⟨hlen, hhead, hpos⟩ := hz.strAux_spec hc _ hc.depth_lt
  refine ⟨hlen, hhead, hpos, fun f hfree => ?_⟩
  have hadd : z.add c f = (z.push (z.newEntry c f)).widen := LzwState.add_of_lt hfree c f
  have hnew : (z.add c f).entry? z.nextFree = some (z.newEntry c f) := by
    rw [hadd, LzwState.widen_entry?, LzwState.entry?_push_nextFree]
  have hkept : ∀ q < z.nextFree, (z.add c f).entry? q = z.entry? q := by
    intro q hq
    rw [hadd, LzwState.widen_entry?, LzwState.entry?_push hq]
  have hsize : (z.add c f).dict.length = z.dict.length + 1 := by
    rw [hadd, LzwState.widen_dict]
    exact List.length_append
  refine ⟨by rw [hadd, LzwState.widen_nextFree, LzwState.nextFree_push], ?_⟩
  unfold LzwState.str
  have hcode : 256 ≤ z.nextFree := Nat.le_trans (by decide) (Nat.le_add_right 258 z.dict.length)
  rw [LzwState.strAux_of_entry hcode hnew, hsize]
  exact congrArg (· ++ [f]) (hz.strAux_congr hkept hc _ _ hc.depth_lt hc.depth_lt)

end Sys2Proof.Machine

/-! The fax units: spec/43_fax_mh.md and spec/44_fax_read.md. -/

namespace Sys2Proof

/-- The bits of a number, least significant first, are those it was read from, last first (R131). -/
theorem natOfBits_testBit (l : List Bool) (i : Nat) : (natOfBits l).testBit i = l.reverse.getD i false := by
  induction l using List.reverseRecOn generalizing i with
  | nil => simp [natOfBits]
  | append_singleton l b ih =>
    rw [natOfBits_concat, List.reverse_append, List.reverse_singleton, List.singleton_append,
      ← Nat.bit_val]
    cases i with
    | zero => simp
    | succ i => rw [Nat.testBit_bit_succ, ih, List.getD_cons_succ]

end Sys2Proof

namespace Sys2Proof.Machine

open Sys2Proof Host

/-! ### Run codes at their place -/

theorem runHere_eq_true {k : Colour} {L : Latched} {f : FaxState} (hrun : f.inRun L = true)
    (hcol : f.runColour = k) : runHere k L f = true := by
  simp [runHere, hrun, hcol]

theorem terminating_eq {s : State} {f : FaxState} (h : s.atFax f) {k : Colour}
    (hrun : f.inRun s.strip.cfg = true) (hcol : f.runColour = k) (n : Nat) :
    terminating k n s = .next { s with strip := terminatingStep n f s.strip } :=
  h.onFax_eq (runHere_eq_true hrun hcol) _

/-- The phase after a make-up code: in a row (R196). -/
def FaxPhase.inRow : FaxPhase → FaxPhase
  | .rowStart | .rowTest _ => .run1D
  | p => p

theorem makeupStep_eq (n : Nat) (f : FaxState) (st : StripState) :
    makeupStep n f st = { st with codec := .fax { f with run := f.run + n, phase := f.phase.inRow } } := by
  unfold makeupStep FaxPhase.inRow
  cases f.phase <;> rfl

theorem FaxPhase.inRow_cases (p : FaxPhase) : p.inRow = p ∨ (p.beforeRow = true ∧ p.inRow = .run1D) := by
  cases p with
  | rowStart => exact .inr ⟨rfl, rfl⟩
  | rowTest twoD => exact .inr ⟨rfl, rfl⟩
  | _ => exact .inl rfl

/-- Settles O34: the rows of the three tables are make-up codes of their values, and a run is being read where they
stand. -/
theorem makeUpCodesAdd : Obligations.MakeUpCodesAdd := by
  intro s f hs hrun row hrow
  refine ⟨f.phase.inRow, f.phase.inRow_cases, ?_⟩
  have hstep : makeupStep row.1 f s.strip = _ := makeupStep_eq row.1 f s.strip
  unfold State.withCodec
  rw [← hstep]
  rcases hrow with ⟨hmem, hcol⟩ | ⟨hmem, hcol⟩ | hmem
  · rw [exec_of_mem_mhWhiteMakeup row hmem]
    exact hs.onFax_eq (runHere_eq_true hrun hcol) _
  · rw [exec_of_mem_mhBlackMakeup row hmem]
    exact hs.onFax_eq (runHere_eq_true hrun hcol) _
  · rw [exec_of_mem_mhExtMakeup row hmem]
    exact hs.onFax_eq hrun _

/-- A terminating code of the colour of the run being read acts there. -/
theorem exec_terminating {s : State} {f : FaxState} {row : Nat × List Bool × Instr} (h : s.atFax f)
    (hrun : f.inRun s.strip.cfg = true)
    (hrow : (row ∈ mhWhiteTerm ∧ f.runColour = .white) ∨ (row ∈ mhBlackTerm ∧ f.runColour = .black)) :
    exec row.2.2 s = .next { s with strip := terminatingStep row.1 f s.strip } := by
  rcases hrow with ⟨hmem, hcol⟩ | ⟨hmem, hcol⟩
  · rw [exec_of_mem_mhWhiteTerm row hmem]
    exact terminating_eq h hrun hcol _
  · rw [exec_of_mem_mhBlackTerm row hmem]
    exact terminating_eq h hrun hcol _

/-- The phases in which a run of a one-dimensional row is read. -/
def FaxState.inOneD (L : Latched) (f : FaxState) : Prop :=
  f.phase = .run1D ∨ f.phase = .rowTest false ∨ (f.phase = .rowStart ∧ L.unit? ≠ some .g4)

theorem FaxState.inOneD.inRun {L : Latched} {f : FaxState} (h : f.inOneD L) : f.inRun L = true := by
  rcases h with h | h | ⟨h, hunit⟩
  · simp [FaxState.inRun, h]
  · simp [FaxState.inRun, h]
  · simp [FaxState.inRun, h, hunit]

theorem FaxState.inOneD.runColour {L : Latched} {f : FaxState} (h : f.inOneD L) : f.runColour = f.col := by
  unfold FaxState.runColour
  rcases h with h | h | ⟨h, _⟩ <;> rw [h] <;> rfl

/-- A run that ends outside mode H. -/
theorem terminatingStep_of_ne {f : FaxState} (h1 : f.phase ≠ .hRun1) (h2 : f.phase ≠ .hRun2) (n : Nat)
    (st : StripState) : terminatingStep n f st =
      if st.cfg.w < f.pos + (f.run + n) then st.fail .faxBadRun
      else faxContinue
        { f.fill f.col (f.pos + (f.run + n)) with run := 0, col := f.col.opposite, phase := .run1D } st := by
  unfold terminatingStep
  split
  · exact absurd ‹_› h1
  · exact absurd ‹_› h2
  · rfl

theorem FaxState.inOneD.ne_hRun {L : Latched} {f : FaxState} (h : f.inOneD L) :
    f.phase ≠ .hRun1 ∧ f.phase ≠ .hRun2 := by
  rcases h with h | h | ⟨h, _⟩ <;> rw [h] <;> exact ⟨nofun, nofun⟩

/-- Settles O35: outside mode H a terminating code fills its run. -/
theorem oneDimensionalRuns : Obligations.OneDimensionalRuns := by
  intro s f row hs hrow hphase n
  have hone : f.inOneD s.strip.cfg := hphase
  obtain ⟨h1, h2⟩ := hone.ne_hRun
  have hcol := hone.runColour
  rw [exec_terminating hs hone.inRun (by rwa [hcol]), terminatingStep_of_ne h1 h2]
  split_ifs
  · rfl
  · simp only [FaxState.fill, Nat.add_sub_cancel_left]
    rfl

theorem terminatingStep_hRun1 {f : FaxState} (h : f.phase = .hRun1) (n : Nat) (st : StripState) :
    terminatingStep n f st =
      { st with codec := .fax { f with run := 0, run1 := f.run + n, phase := .hRun2 } } := by
  unfold terminatingStep
  rw [h]

theorem terminatingStep_hRun2 {f : FaxState} (h : f.phase = .hRun2) (n : Nat) (st : StripState) :
    terminatingStep n f st =
      if st.cfg.w < f.pos + f.run1 + (f.run + n) then st.fail .faxBadRun
      else faxContinue
        { f with
          cur := f.cur ++ List.replicate f.run1 f.col.pixel ++ List.replicate (f.run + n) f.col.opposite.pixel
          a0 := (f.pos + f.run1 + (f.run + n) : Nat)
          run := 0
          run1 := 0
          phase := .mode } st := by
  have hpos : ((f.pos + f.run1 : Nat) : Int).toNat = f.pos + f.run1 := rfl
  unfold terminatingStep
  rw [h]
  simp only [FaxState.fill, FaxState.pos] at hpos ⊢
  simp only [hpos, Nat.add_sub_cancel_left]
  rfl

/-- Settles O36: the first run of mode H is kept for the check after the second. -/
theorem horizontalRuns : Obligations.HorizontalRuns := by
  intro s f row hs hrow n
  refine ⟨fun hphase => ?first, fun hphase => ?second⟩
  case first =>
    rw [exec_terminating hs (by simp [FaxState.inRun, hphase]) hrow, terminatingStep_hRun1 hphase]
    rfl
  case second =>
    rw [exec_terminating hs (by simp [FaxState.inRun, hphase]) hrow, terminatingStep_hRun2 hphase]
    split_ifs <;> rfl

/-! ### Rows (R192, R199) -/

@[simp] theorem rowBytes_length (w : Nat) (row : List Bool) : (rowBytes w row).length = (w + 7) / 8 := by
  simp [rowBytes]

/-- Pixel x of a packed row (R192). -/
theorem rowBytes_pixel (w : Nat) (row : List Bool) {x : Nat} (hx : x < 8 * ((w + 7) / 8)) :
    ∃ b, (rowBytes w row)[x / 8]? = some b ∧ b.getLsbD (7 - x % 8) = row.getD x false := by
  have hbyte : x / 8 < (w + 7) / 8 := by omega
  refine ⟨BitVec.ofNat 8 (natOfBits ((List.range 8).map fun j => row.getD (8 * (x / 8) + j) false)), ?_, ?_⟩
  · rw [rowBytes, List.getElem?_map, List.getElem?_range hbyte, Option.map_some]
  · have hbit : 7 - x % 8 < 8 := by omega
    have hrev : 8 - 1 - (7 - x % 8) = x % 8 := by omega
    rw [BitVec.getLsbD_ofNat, natOfBits_testBit, List.getD_eq_getElem?_getD,
      List.getElem?_reverse (by simpa using hbit), List.length_map, List.length_range, hrev, List.getElem?_map,
      List.getElem?_range (by omega), decide_eq_true hbit, Option.map_some, Option.getD_some, Bool.true_and,
      Nat.div_add_mod]

theorem faxContinue_of_lt {f : FaxState} {st : StripState} (h : f.a0 < st.cfg.w) :
    faxContinue f st = { st with codec := .fax f } :=
  if_neg (Int.not_le.mpr h)

theorem faxContinue_of_le {f : FaxState} {st : StripState} (h : (st.cfg.w : Int) ≤ f.a0) :
    faxContinue f st =
      { st with emitted := st.emitted ++ rowBytes st.cfg.w f.cur, codec := .fax (f.nextRow st.cfg) } :=
  if_pos h

/-- Settles O37: the packing bit by bit, and the two branches of `faxContinue`. -/
theorem faxRowEnds : Obligations.FaxRowEnds := by
  refine ⟨fun w row _ => ⟨rowBytes_length w row, fun x hx => rowBytes_pixel w row hx⟩,
    fun f st => ⟨faxContinue_of_lt, fun h => ?_⟩⟩
  rw [faxContinue_of_le h]
  simp only [FaxState.nextRow, firstPhase, startA0, decide_eq_true_eq]

/-! ### Changing elements (R223) -/

/-- The first number below a bound for which a test holds, or the bound. -/
theorem find?_range_getD (p : Nat → Bool) (w : Nat) :
    ((List.range w).find? p).getD w ≤ w ∧
      (((List.range w).find? p).getD w < w → p (((List.range w).find? p).getD w) = true) ∧
      ∀ i < ((List.range w).find? p).getD w, p i = false := by
  cases hfind : (List.range w).find? p with
  | none =>
    refine ⟨le_refl w, fun h => absurd h (lt_irrefl w), fun i hi => ?_⟩
    simpa using List.find?_range_eq_none.mp hfind i hi
  | some a =>
    obtain ⟨hpa, hmem, hleast⟩ := List.find?_range_eq_some.mp hfind
    exact ⟨Nat.le_of_lt (List.mem_range.mp hmem), fun _ => hpa, fun i hi => by simpa using hleast i hi⟩

theorem FaxState.b1_spec (f : FaxState) (w : Nat) :
    f.b1 w ≤ w ∧
      (f.b1 w < w →
        f.a0 < (f.b1 w : Int) ∧ isChange f.ref (f.b1 w) = true ∧ pixelAt f.ref (f.b1 w) = f.col.opposite.pixel) ∧
      ∀ i < f.b1 w,
        ¬ (f.a0 < (i : Int) ∧ isChange f.ref i = true ∧ pixelAt f.ref i = f.col.opposite.pixel) := by
  obtain ⟨hle, hlt, hleast⟩ := find?_range_getD (fun i =>
    decide (f.a0 < (i : Int)) && isChange f.ref i && (pixelAt f.ref i == f.col.opposite.pixel)) w
  refine ⟨hle, fun h => ?_, fun i hi hchange => ?_⟩
  · have htest := hlt h
    simp only [Bool.and_eq_true, decide_eq_true_eq, beq_iff_eq, and_assoc] at htest
    exact htest
  · have hfalse := hleast i hi
    simp [hchange] at hfalse

theorem FaxState.b2_spec (f : FaxState) (w : Nat) :
    f.b2 w ≤ w ∧ (f.b2 w < w → f.b1 w < f.b2 w ∧ isChange f.ref (f.b2 w) = true) ∧
      ∀ i < f.b2 w, ¬ (f.b1 w < i ∧ isChange f.ref i = true) := by
  obtain ⟨hle, hlt, hleast⟩ := find?_range_getD (fun i => decide (f.b1 w < i) && isChange f.ref i) w
  refine ⟨hle, fun h => ?_, fun i hi hchange => ?_⟩
  · have htest := hlt h
    simp only [Bool.and_eq_true, decide_eq_true_eq] at htest
    exact htest
  · have hfalse := hleast i hi
    simp [hchange] at hfalse

/-- b2 lies right of a0. -/
theorem FaxState.a0_lt_b2 {f : FaxState} {w : Nat} (h : f.a0 < w) : f.a0 < f.b2 w := by
  obtain ⟨hle1, hlt1, _⟩ := f.b1_spec w
  obtain ⟨hle2, hlt2, _⟩ := f.b2_spec w
  rcases Nat.lt_or_ge (f.b2 w) w with hb2 | hb2
  · obtain ⟨hright, _⟩ := hlt2 hb2
    obtain ⟨ha0, _⟩ := hlt1 (hright.trans_le hle2)
    omega
  · omega

/-- Settles O39: both are the first number below W for which their test holds. -/
theorem changingElements : Obligations.ChangingElements := by
  intro f w other either
  obtain ⟨hle1, hlt1, hleast1⟩ := f.b1_spec w
  obtain ⟨hle2, hlt2, hleast2⟩ := f.b2_spec w
  exact ⟨hle1, hle2, hlt1, hleast1, hlt2, hleast2, FaxState.a0_lt_b2⟩

/-! ### Mode codes (R225 to R231) -/

theorem passStep_eq (f : FaxState) (st : StripState) : passStep f st = faxContinue
    { f with
      cur := f.cur ++ List.replicate (f.b2 st.cfg.w - f.pos) f.col.pixel
      a0 := (f.b2 st.cfg.w : Nat) } st := rfl

theorem verticalStep_eq (k : Int) (f : FaxState) (st : StripState) : verticalStep k f st =
    if (f.b1 st.cfg.w : Int) + k < f.pos ∨ (st.cfg.w : Int) < f.b1 st.cfg.w + k then st.fail .faxBadRun
    else faxContinue
      { f with
        cur := f.cur ++ List.replicate (((f.b1 st.cfg.w : Int) + k).toNat - f.pos) f.col.pixel
        a0 := (((f.b1 st.cfg.w : Int) + k).toNat : Nat)
        col := f.col.opposite } st := rfl

/-- Settles O38: each mode code at its place, in the phase of a mode code. -/
theorem readModes : Obligations.ReadModes := by
  intro s f hs hhere w vertical
  have hvertical (k : Int) : onMode s (verticalStep k) = .next (vertical k) := by
    rw [hs.onMode_eq hhere, verticalStep_eq]
    exact (apply_ite (fun st => Outcome.next (State.withStrip s st)) _ _ _).trans
      (apply_ite Outcome.next _ _ _).symm
  refine ⟨hs.onMode_eq hhere passStep, hs.onMode_eq hhere horizontalStep, hvertical 0, hvertical 1, hvertical 2,
    hvertical 3, hvertical (-1), hvertical (-2), hvertical (-3), fun e => ?_⟩
  have hext : exec (.readExt e) s = .next (s.withStrip (extensionStep e { f with phase := .mode } s.strip)) :=
    hs.onMode_eq hhere (extensionStep e)
  rw [hext, extensionStep]
  split_ifs <;> rfl

/-! ### Group 3 framing (R233 to R238) -/

theorem eolStep_seekEol {f : FaxState} (h : f.phase = .seekEol) (st : StripState) : eolStep f st =
    { st with
      codec := .fax (if st.cfg.t4opt.getLsbD 0 then { f with phase := .tag }
        else { f with phase := .rowTest false, a0 := 0 }) } := by
  unfold eolStep Latched.t4TwoD
  rw [h]
  dsimp only
  split_ifs <;> rfl

theorem eolStep_rowTest {f : FaxState} {twoD : Bool} (h : f.phase = .rowTest twoD) (st : StripState) :
    eolStep f st = st.stop .done := by
  unfold eolStep
  rw [h]

theorem eolStep_rowStart {f : FaxState} (h : f.phase = .rowStart) (st : StripState) :
    eolStep f st = if st.cfg.unit? = some .g4 then st.stop .done else st.fail .faxBadCode := by
  unfold eolStep
  rw [h]

theorem eolStep_inRow {f : FaxState} (h : f.phase ∈ [.run1D, .mode, .hRun1, .hRun2]) (st : StripState) :
    eolStep f st = st.fail .faxBadCode := by
  unfold eolStep
  split
  · rename_i hphase; simp [hphase] at h
  · rename_i hphase; simp [hphase] at h
  · rename_i hphase; simp [hphase] at h
  · rfl

/-- Settles O40: what an EOL and a tag bit do in each phase. -/
theorem group3Framing : Obligations.Group3Framing := by
  intro s f hs
  refine ⟨fun hphase => ?seek, fun hphase => ⟨exec_g3Tag hs hphase 1, exec_g3Tag hs hphase 0⟩,
    fun hphase => ?ends, fun hphase => ?bad⟩
  case seek =>
    rw [exec_faxEol hs (by simp [hphase]), eolStep_seekEol hphase]
    rfl
  case ends =>
    rcases hphase with ⟨twoD, hphase⟩ | ⟨hphase, hunit⟩
    · rw [exec_faxEol hs (by simp [hphase]), eolStep_rowTest hphase]
      rfl
    · rw [exec_faxEol hs (by simp [hphase]), eolStep_rowStart hphase, if_pos hunit]
      rfl
  case bad =>
    rcases hphase with hphase | ⟨hphase, hunit⟩
    · rw [exec_faxEol hs (by rintro h; simp [h] at hphase), eolStep_inRow hphase]
      rfl
    · rw [exec_faxEol hs (by simp [hphase]), eolStep_rowStart hphase, if_neg (by simp [hunit])]
      rfl

/-! ### Sound fax states (R191, R221) -/

theorem startA0_cases (twoD : Bool) : startA0 twoD = -1 ∨ startA0 twoD = 0 := by
  cases twoD
  · exact .inr rfl
  · exact .inl rfl

theorem startA0_toNat (twoD : Bool) : (startA0 twoD).toNat = 0 := by
  cases twoD <;> rfl

theorem startA0_bounds {w : Nat} (hw : 1 ≤ w) (twoD : Bool) : -1 ≤ startA0 twoD ∧ startA0 twoD < w := by
  rcases startA0_cases twoD with h | h <;> omega

theorem FaxState.init_wf {L : Latched} (hw : 1 ≤ L.w) : (FaxState.init L).Wf L where
  width := hw
  fresh _ := rfl
  ref := List.length_replicate
  cur := (startA0_toNat _).symm
  a0 := startA0_bounds hw _

theorem FaxState.Wf.nextRow {L : Latched} {f : FaxState} (hw : 1 ≤ L.w) (hcur : f.cur.length = L.w) :
    (f.nextRow L).Wf L where
  width := hw
  fresh _ := rfl
  ref := hcur
  cur := (startA0_toNat _).symm
  a0 := startA0_bounds hw _

/-- A codec state of the fax unit that is sound, and counts the rows that `b` holds beyond those of `f`. -/
def FaxState.Next (L : Latched) (f : FaxState) (b : List Byte) (c : CodecState) : Prop :=
  ∃ f', c = .fax f' ∧ (f.Wf L → f'.Wf L ∧ b.length + f.rows * ((L.w + 7) / 8) = f'.rows * ((L.w + 7) / 8))

/-- A state inside a row that a code has filled up to a0. -/
structure FaxState.Filled (L : Latched) (f : FaxState) : Prop where
  width : 1 ≤ L.w
  inRow : f.phase.beforeRow = false
  ref : f.ref.length = L.w
  cur : f.cur.length = f.pos
  a0 : 0 ≤ f.a0 ∧ f.a0 ≤ L.w

/-- Where a code has filled a row, the row goes on or is complete. -/
theorem faxContinue_leaves {f g : FaxState} {st : StripState} (hrows : g.rows = f.rows)
    (hg : f.Wf st.cfg → g.Filled st.cfg) : st.Leaves (f.Next st.cfg) (faxContinue g st) := by
  rcases lt_or_ge g.a0 st.cfg.w with hlt | hge
  · rw [faxContinue_of_lt hlt]
    refine .codec ⟨g, rfl, fun hf => ⟨?_, by rw [hrows, List.length_nil, Nat.zero_add]⟩⟩
    obtain ⟨hwidth, hrow, href, hcur, ha0⟩ := hg hf
    exact ⟨hwidth, fun h => absurd (hrow.symm.trans h) Bool.false_ne_true, href, hcur, by omega, hlt⟩
  · rw [faxContinue_of_le hge]
    refine .emits ⟨_, rfl, fun hf => ?_⟩
    obtain ⟨hwidth, hrow, href, hcur, ha0⟩ := hg hf
    refine ⟨FaxState.Wf.nextRow hwidth (hcur.trans ?_), ?_⟩
    · unfold FaxState.pos
      omega
    · rw [rowBytes_length, show (g.nextRow st.cfg).rows = g.rows + 1 from rfl, hrows, Nat.add_mul, Nat.one_mul,
        Nat.add_comm]

/-- A sound state stays sound where only the run changes and a row's first code begins the row. -/
theorem FaxState.Next.of_phase {L : Latched} {f : FaxState} {p : FaxPhase} (run run1 : Nat)
    (hp : p.beforeRow = true → f.phase.beforeRow = true) :
    f.Next L [] (.fax { f with run, run1, phase := p }) :=
  ⟨_, rfl, fun hf => ⟨⟨hf.width, fun h => hf.fresh (hp h), hf.ref, hf.cur, hf.a0⟩,
    by rw [List.length_nil, Nat.zero_add]⟩⟩

/-- A code that fills the row up to `p` and goes on inside it. -/
theorem FaxState.Wf.filled {L : Latched} {f g : FaxState} {k p : Nat} {pixels : List Bool} (hf : f.Wf L)
    (hrow : g.phase.beforeRow = false) (href : g.ref = f.ref) (hcur : g.cur = f.cur ++ pixels)
    (hpixels : pixels.length = k) (ha0 : g.a0 = (p : Nat)) (hp : p = f.pos + k) (hw : p ≤ L.w) : g.Filled L where
  width := hf.width
  inRow := hrow
  ref := href ▸ hf.ref
  cur := by
    rw [hcur, List.length_append, hf.cur, hpixels, ← hp]
    exact (congrArg Int.toNat ha0).symm
  a0 := by omega

theorem RunAction.leaves {g : FaxState → StripState → StripState} (h : RunAction g) (f : FaxState)
    (st : StripState) : st.Leaves (f.Next st.cfg) (g f st) := by
  cases h with
  | makeup n =>
    rw [makeupStep_eq]
    refine .codec (FaxState.Next.of_phase _ _ fun h => ?_)
    rcases f.phase.inRow_cases with hp | ⟨hp, _⟩
    · rwa [hp] at h
    · exact hp
  | terminating n =>
    by_cases h1 : f.phase = .hRun1
    · rw [terminatingStep_hRun1 h1]
      exact .codec (FaxState.Next.of_phase _ _ nofun)
    by_cases h2 : f.phase = .hRun2
    · rw [terminatingStep_hRun2 h2]
      split_ifs with hpast
      · exact .fail rfl
      refine faxContinue_leaves rfl fun hf => ?_
      exact hf.filled rfl rfl (List.append_assoc _ _ _) List.length_append rfl
        (by simp [Nat.add_assoc]) (Nat.not_lt.mp hpast)
    · rw [terminatingStep_of_ne h1 h2]
      split_ifs with hpast
      · exact .fail rfl
      refine faxContinue_leaves rfl fun hf => ?_
      exact hf.filled rfl rfl rfl List.length_replicate rfl (by omega) (Nat.not_lt.mp hpast)

theorem ModeAction.leaves {g : FaxState → StripState → StripState} (h : ModeAction g) (f : FaxState)
    (st : StripState) : st.Leaves (f.Next st.cfg) (g { f with phase := .mode } st) := by
  cases h with
  | pass =>
    rw [passStep_eq]
    refine faxContinue_leaves rfl fun hf => ?_
    obtain ⟨hle, _⟩ := FaxState.b2_spec { f with phase := .mode } st.cfg.w
    have hright : f.a0 < FaxState.b2 { f with phase := .mode } st.cfg.w := FaxState.a0_lt_b2 hf.a0.2
    refine hf.filled rfl rfl rfl List.length_replicate rfl ?_ hle
    unfold FaxState.pos
    dsimp only
    omega
  | horizontal => exact .codec (FaxState.Next.of_phase 0 0 nofun)
  | vertical k =>
    rw [verticalStep_eq]
    split_ifs with hout
    · exact .fail rfl
    obtain ⟨hleft, hpast⟩ := not_or.mp hout
    refine faxContinue_leaves rfl fun hf => ?_
    refine hf.filled rfl rfl rfl List.length_replicate rfl ?_ (by omega)
    unfold FaxState.pos at hleft ⊢
    dsimp only at hleft ⊢
    omega
  | extension e =>
    unfold extensionStep
    split_ifs
    · exact .fail rfl
    · exact .fail rfl

/-- A state before a row's first code, with the position a row of its kind begins at. -/
theorem FaxState.Next.of_beforeRow {L : Latched} {f : FaxState} (p : FaxPhase) (twoD : Bool)
    (hf : f.phase.beforeRow = true) : f.Next L [] (.fax { f with phase := p, a0 := startA0 twoD }) := by
  refine ⟨_, rfl, fun hwf => ⟨⟨hwf.width, fun _ => hwf.fresh hf, hwf.ref, ?_, startA0_bounds hwf.width twoD⟩,
    by rw [List.length_nil, Nat.zero_add]⟩⟩
  rw [FaxState.pos, startA0_toNat]
  exact congrArg List.length (hwf.fresh hf)

theorem eolStep_leaves {f : FaxState} (h : f.phase = .seekEol) (st : StripState) :
    st.Leaves (f.Next st.cfg) (eolStep f st) := by
  rw [eolStep_seekEol h]
  have hbefore : f.phase.beforeRow = true := by rw [h]; rfl
  split_ifs
  · exact .codec (FaxState.Next.of_phase f.run f.run1 fun _ => hbefore)
  · exact .codec (FaxState.Next.of_beforeRow (.rowTest false) false hbefore)

theorem rowTestStep_leaves {f : FaxState} (h : f.phase = .tag) (twoD : Bool) (st : StripState) :
    st.Leaves (f.Next st.cfg) (rowTestStep twoD f st) :=
  .codec (FaxState.Next.of_beforeRow (.rowTest twoD) twoD (by rw [h]; rfl))

end Sys2Proof.Machine

/-! The JPEG unit: markers, segments and tables (spec/47_jpeg.md R310 to R323, R333 to R340). -/

namespace Sys2Proof.Machine

open Sys2Proof Host

/-! ### Markers by phase (R316, R333 to R335) -/

theorem MarkerMeaning.exec_at {i : Instr} {f : JpegState → StripState → StripState} (hf : MarkerMeaning i f)
    {s : State} {j : JpegState} (h : s.atJpeg j) : exec i s = .next { s with strip := f j s.strip } := by
  rw [hf.exec_eq]
  exact h.onMarker_eq f

section Phases

variable {j : JpegState} {eoi : Bool} {act : JpegState → StripState → StripState}

theorem markerStep_soi (h : j.phase = .soi) (st : StripState) : markerStep eoi act j st = st.fail .jpegNoSoi := by
  unfold markerStep
  rw [h]

theorem markerStep_entropy (h : j.phase = .entropy) (st : StripState) :
    markerStep eoi act j st = st.fail (if eoi then .truncated else .jpegBadData) := by
  unfold markerStep
  rw [h]

theorem markerStep_restart (h : j.phase = .restart) (st : StripState) :
    markerStep eoi act j st = st.fail .jpegRestart := by
  unfold markerStep
  rw [h]

theorem markerStep_act (h : j.phase = .header ∨ j.phase = .tail) (st : StripState) :
    markerStep eoi act j st = act j st := by
  unfold markerStep
  rcases h with h | h <;> rw [h]

theorem soiStep_soi (h : j.phase = .soi) (st : StripState) :
    soiStep j st = { st with codec := .jpeg { j with phase := .header } } := by
  unfold soiStep
  rw [h]

theorem soiStep_of_ne (h : j.phase ≠ .soi) (st : StripState) :
    soiStep j st = markerStep false (fun _ st => st.fail .jpegBadMarker) j st := by
  unfold soiStep
  split
  · exact absurd ‹_› h
  · rfl

theorem rstStep_restart (h : j.phase = .restart) (m : Nat) (st : StripState) :
    rstStep m j st =
      if m = (j.mcu / j.tables.ri.toNat - 1) % 8 then
        flushRow { j with phase := .entropy, preds := j.preds.map (fun _ => 0), ebuf := [] } st
      else st.fail .jpegRestart := by
  unfold rstStep
  rw [h]

theorem rstStep_of_ne (h : j.phase ≠ .restart) (m : Nat) (st : StripState) :
    rstStep m j st = markerStep false badAct j st := by
  unfold rstStep
  split
  · exact absurd ‹_› h
  · rfl

end Phases

/-- Before SOI every other marker is an error (R316). -/
theorem MarkerMeaning.at_soi {i : Instr} {f : JpegState → StripState → StripState} (hf : MarkerMeaning i f)
    {j : JpegState} (h : j.phase = .soi) (hi : i ≠ .jpegSoi) (st : StripState) : f j st = st.fail .jpegNoSoi := by
  cases hf with
  | soi => exact absurd rfl hi
  | rstm m => rw [rstStep_of_ne (by simp [h]), markerStep_soi h]
  | _ => exact markerStep_soi h st

/-- Inside entropy-coded data every marker is an error (R333). -/
theorem MarkerMeaning.at_entropy {i : Instr} {f : JpegState → StripState → StripState} (hf : MarkerMeaning i f)
    {j : JpegState} (h : j.phase = .entropy) (st : StripState) :
    f j st = st.fail (if i = .jpegEoi then .truncated else .jpegBadData) := by
  cases hf with
  | soi => rw [soiStep_of_ne (by simp [h]), markerStep_entropy h]; rfl
  | rstm m => rw [rstStep_of_ne (by simp [h]), markerStep_entropy h]; rfl
  | mode i hi =>
    have hne : i ≠ .jpegEoi := by rintro rfl; exact absurd hi (by decide)
    rw [markerStep_entropy h, if_neg hne]
    rfl
  | _ => exact markerStep_entropy h st

/-- At a restart point every marker but the expected RSTm is an error (R334). -/
theorem MarkerMeaning.at_restart {i : Instr} {f : JpegState → StripState → StripState} (hf : MarkerMeaning i f)
    {j : JpegState} (h : j.phase = .restart)
    (hi : ∀ k : BitVec 3, i = .jpegRstm k → k.toNat ≠ (j.mcu / j.tables.ri.toNat - 1) % 8) (st : StripState) :
    f j st = st.fail .jpegRestart := by
  cases hf with
  | soi => rw [soiStep_of_ne (by simp [h]), markerStep_restart h]
  | rstm m => rw [rstStep_restart h, if_neg (hi m rfl)]
  | _ => exact markerStep_restart h st

/-- Settles O44: the one marker each phase admits, and what all others are there. -/
theorem jpegMarkersByPhase : Obligations.JpegMarkersByPhase := by
  intro s j hs
  refine ⟨fun hphase => ⟨?soi, fun i m hi hne => ?notSoi⟩, fun hphase i m hi => ?entropy,
    fun hphase => ⟨fun m hm => ?rst, fun i m hi hne => ?notRst⟩⟩
  case soi =>
    rw [MarkerMeaning.soi.exec_at hs, soiStep_soi hphase]
    rfl
  case notSoi =>
    obtain ⟨f, hf⟩ := exists_markerMeaning hi
    rw [hf.exec_at hs, hf.at_soi hphase hne]
    rfl
  case entropy =>
    obtain ⟨f, hf⟩ := exists_markerMeaning hi
    rw [hf.exec_at hs, hf.at_entropy hphase]
    rfl
  case rst =>
    rw [(MarkerMeaning.rstm m).exec_at hs, rstStep_restart hphase, if_pos hm]
    rfl
  case notRst =>
    obtain ⟨f, hf⟩ := exists_markerMeaning hi
    rw [hf.exec_at hs, hf.at_restart hphase hne]
    rfl

/-- A marker that acts where markers are expected. -/
theorem MarkerMeaning.exec_act {i : Instr} {eoi : Bool} {act : JpegState → StripState → StripState}
    (hf : MarkerMeaning i (markerStep eoi act)) {s : State} {j : JpegState} (h : s.atJpeg j)
    (hphase : j.phase = .header ∨ j.phase = .tail) : exec i s = .next { s with strip := act j s.strip } := by
  rw [hf.exec_at h, markerStep_act hphase]

theorem exec_jpegSoi_after {s : State} {j : JpegState} (h : s.atJpeg j)
    (hphase : j.phase = .header ∨ j.phase = .tail) :
    exec .jpegSoi s = .next { s with strip := s.strip.fail .jpegBadMarker } := by
  rw [MarkerMeaning.soi.exec_at h, soiStep_of_ne (by rcases hphase with h | h <;> simp [h]), markerStep_act hphase]

theorem exec_jpegRstm_after {s : State} {j : JpegState} (h : s.atJpeg j)
    (hphase : j.phase = .header ∨ j.phase = .tail) (m : BitVec 3) :
    exec (.jpegRstm m) s = .next { s with strip := s.strip.fail .jpegBadMarker } := by
  rw [(MarkerMeaning.rstm m).exec_at h, rstStep_of_ne (by rcases hphase with h | h <;> simp [h]),
    markerStep_act hphase]
  rfl

section Acts

variable {j : JpegState}

theorem eoiAct_header (h : j.phase = .header) (st : StripState) :
    eoiAct j st = if j.tablesOnly then st.stop .done else st.fail .jpegBadMarker := by
  unfold eoiAct
  rw [h]

theorem eoiAct_tail (h : j.phase = .tail) (st : StripState) :
    eoiAct j st =
      (st.emit (mcuRowBytes st.cfg j.frameD j.blocks (j.frameD.mcuRows - 1))).stop .done := by
  unfold eoiAct
  rw [h]

theorem modeAct_header (h : j.phase = .header) (st : StripState) : modeAct j st = st.fail .jpegMode := by
  unfold modeAct
  rw [h]
  rfl

theorem modeAct_tail (h : j.phase = .tail) (st : StripState) : modeAct j st = st.fail .jpegBadMarker := by
  unfold modeAct
  rw [h]
  rfl

theorem sofAct_of_bad (h : j.tablesOnly = true ∨ j.phase = .tail ∨ j.frame.isSome = true) (st : StripState) :
    sofAct j st = st.fail .jpegBadMarker := by
  unfold sofAct
  exact if_pos h

theorem sosAct_tail (h : j.phase = .tail) (st : StripState) : sosAct j st = st.fail .jpegMultiscan := by
  unfold sosAct
  exact if_pos h

theorem sosAct_of_bad (hphase : j.phase = .header) (h : j.tablesOnly = true ∨ j.frame = none) (st : StripState) :
    sosAct j st = st.fail .jpegBadMarker := by
  unfold sosAct
  rw [if_neg (by simp [hphase])]
  split
  · rename_i f htables hframe
    rcases h with h | h
    · exact absurd (h.symm.trans htables) nofun
    · exact absurd (h.symm.trans hframe) nofun
  · rfl

end Acts

/-- Settles O45: the actions of the markers that end the stream in the header. -/
theorem jpegMarkersInHeader : Obligations.JpegMarkersInHeader := by
  intro s j hs hphase
  have hact : j.phase = .header ∨ j.phase = .tail := .inl hphase
  have heoi := MarkerMeaning.eoi.exec_act hs hact
  have hsos := MarkerMeaning.sos.exec_act hs hact
  have hsof (h : j.tablesOnly = true ∨ j.phase = .tail ∨ j.frame.isSome = true) :
      exec .jpegSof0 s = .next (s.streamFails .jpegBadMarker) ∧
        exec .jpegSof1 s = .next (s.streamFails .jpegBadMarker) := by
    rw [MarkerMeaning.sof0.exec_act hs hact, MarkerMeaning.sof1.exec_act hs hact, sofAct_of_bad h]
    exact ⟨rfl, rfl⟩
  rw [eoiAct_header hphase] at heoi
  refine ⟨fun i hi => ?mode, MarkerMeaning.dnl.exec_act hs hact, exec_jpegSoi_after hs hact,
    MarkerMeaning.tem.exec_act hs hact, exec_jpegRstm_after hs hact, fun c => (MarkerMeaning.res c).exec_act hs hact,
    fun htables => ?eoiStrip, fun htables => ⟨?eoiTables, ?sof0, ?sof1, ?sosTables⟩, fun hframe => ?sosFrame,
    fun hframe => hsof (.inr (.inr (Option.isSome_iff_ne_none.mpr hframe)))⟩
  case mode =>
    rw [(MarkerMeaning.mode i hi).exec_act hs hact, modeAct_header hphase]
    rfl
  case eoiStrip =>
    rw [heoi, htables]
    rfl
  case eoiTables =>
    rw [heoi, htables]
    rfl
  case sof0 => exact (hsof (.inl htables)).1
  case sof1 => exact (hsof (.inl htables)).2
  case sosTables =>
    rw [hsos, sosAct_of_bad hphase (.inl htables)]
    rfl
  case sosFrame =>
    rw [hsos, sosAct_of_bad hphase (.inr hframe)]
    rfl

/-- Settles O46: the actions of the markers that end the stream after the scan. -/
theorem jpegMarkersAfterScan : Obligations.JpegMarkersAfterScan := by
  intro s j hs hphase
  have hact : j.phase = .header ∨ j.phase = .tail := .inr hphase
  refine ⟨?eoi, ?sos, MarkerMeaning.dnl.exec_act hs hact, fun i m hi hlist happ => ?others⟩
  case eoi =>
    rw [MarkerMeaning.eoi.exec_act hs hact, eoiAct_tail hphase]
    rfl
  case sos =>
    rw [MarkerMeaning.sos.exec_act hs hact, sosAct_tail hphase]
    rfl
  case others =>
    obtain ⟨f, hf⟩ := exists_markerMeaning hi
    cases hf with
    | soi => exact exec_jpegSoi_after hs hact
    | rstm m => exact exec_jpegRstm_after hs hact m
    | tem => exact MarkerMeaning.tem.exec_act hs hact
    | res c => exact (MarkerMeaning.res c).exec_act hs hact
    | mode i hi =>
      rw [(MarkerMeaning.mode i hi).exec_act hs hact, modeAct_tail hphase]
      rfl
    | sof0 =>
      rw [MarkerMeaning.sof0.exec_act hs hact, sofAct_of_bad (.inr (.inl hphase))]
      rfl
    | sof1 =>
      rw [MarkerMeaning.sof1.exec_act hs hact, sofAct_of_bad (.inr (.inl hphase))]
      rfl
    | appn n => exact absurd rfl (happ n)
    | _ => exact absurd hlist (by decide)

/-! ### Segments (R315) -/

section Segments

variable {st : StripState} {f : List Byte → StripState → StripState} {a b : Byte} {rest body : List Byte}

theorem withSegment_of_cons (h : st.bytes = a :: b :: rest) : withSegment st f =
    if be16 a b < 2 then st.fail .jpegBadSegment
    else if rest.length < be16 a b - 2 then st.fail .truncated
    else f (rest.take (be16 a b - 2)) (st.skip (8 * be16 a b)) := by
  unfold withSegment
  rw [h]

theorem withSegment_of_short (h : st.bytes.length < 2) : withSegment st f = st.fail .truncated := by
  unfold withSegment
  split
  · rename_i hbytes
    rw [hbytes, List.length_cons, List.length_cons] at h
    omega
  · rfl

/-- The content of a whole segment is read, and the cursor passes it. -/
theorem withSegment_of_whole (h : st.bytes = a :: b :: (body ++ rest)) (hlen : be16 a b = body.length + 2) :
    withSegment st f = f body { st with bc := st.bc + 8 * (body.length + 2) } := by
  have hcontent : be16 a b - 2 = body.length := by omega
  rw [withSegment_of_cons h, if_neg (by omega), hcontent, if_neg (by rw [List.length_append]; omega),
    List.take_left, hlen]
  rfl

theorem withSegment_leaves {Q : List Byte → CodecState → Prop}
    (h : ∀ body n, (st.skip (8 * n)).Leaves Q (f body (st.skip (8 * n)))) : st.Leaves Q (withSegment st f) := by
  unfold withSegment
  split
  · split_ifs
    · exact .fail rfl
    · exact .fail rfl
    · exact .skip _ (h _ _)
  · exact .fail rfl

end Segments

/-- A marker that reads a segment, and what it does with its content. -/
inductive SegmentMarker (j : JpegState) : Instr → (List Byte → StripState → StripState) → Prop
  | dqt : SegmentMarker j .jpegDqt fun body st =>
      match dqt body j.tables with
      | .error k => st.fail k
      | .ok tables => { st with codec := .jpeg { j with tables } }
  | dht : SegmentMarker j .jpegDht fun body st =>
      match dht body j.tables with
      | .error k => st.fail k
      | .ok tables => { st with codec := .jpeg { j with tables } }
  | dri : SegmentMarker j .jpegDri fun body st =>
      match dri body j.tables with
      | .error k => st.fail k
      | .ok tables => { st with codec := .jpeg { j with tables } }
  | com : SegmentMarker j .jpegCom fun _ st => st
  | appn (n : BitVec 4) : SegmentMarker j (.jpegAppn n) fun _ st => st

theorem SegmentMarker.exec_eq {j : JpegState} {i : Instr} {f : List Byte → StripState → StripState}
    (hf : SegmentMarker j i f) {s : State} (h : s.atJpeg j) (hphase : j.phase = .header ∨ j.phase = .tail) :
    exec i s = .next { s with strip := withSegment s.strip f } := by
  cases hf with
  | dqt => exact MarkerMeaning.dqt.exec_act h hphase
  | dht => exact MarkerMeaning.dht.exec_act h hphase
  | dri => exact MarkerMeaning.dri.exec_act h hphase
  | com => exact MarkerMeaning.com.exec_act h hphase
  | appn n => exact (MarkerMeaning.appn n).exec_act h hphase

theorem exists_segmentMarker (j : JpegState) {i : Instr}
    (h : i ∈ ([.jpegDqt, .jpegDht, .jpegDri, .jpegCom] : List Instr) ∨ ∃ n, i = .jpegAppn n) :
    ∃ f, SegmentMarker j i f := by
  rcases h with h | ⟨n, rfl⟩
  · fin_cases h
    · exact ⟨_, .dqt⟩
    · exact ⟨_, .dht⟩
    · exact ⟨_, .dri⟩
    · exact ⟨_, .com⟩
  · exact ⟨_, .appn n⟩

theorem dri_pair (x y : Byte) (T : JpegTables) : dri [x, y] T = .ok { T with ri := x ++ y } := rfl

theorem dri_of_length_ne {body : List Byte} (h : body.length ≠ 2) (T : JpegTables) :
    dri body T = .error .jpegBadSegment := by
  unfold dri
  split
  · exact absurd rfl h
  · rfl

/-- Settles O47: the length checks of every segment at once, and what each marker does with a whole one. -/
theorem jpegSegments : Obligations.JpegSegments := by
  intro s j hs hphase
  refine ⟨fun i hi => ?lengths, fun a b body rest hbytes hlen => ?whole⟩
  case lengths =>
    obtain ⟨f, hf⟩ := exists_segmentMarker j hi
    rw [hf.exec_eq hs hphase]
    refine ⟨fun hshort => ?_, fun a b rest hbytes => ⟨fun hsmall => ?_, fun hlo htrunc => ?_⟩⟩
    · rw [withSegment_of_short hshort]
      rfl
    · rw [withSegment_of_cons hbytes, if_pos hsmall]
      rfl
    · rw [withSegment_of_cons hbytes, if_neg (by omega), if_pos (by omega)]
      rfl
  case whole =>
    intro t acts
    have hexec {i : Instr} {f : List Byte → StripState → StripState} (hf : SegmentMarker j i f) :
        exec i s = .next { s with strip := f body { s.strip with bc := s.strip.bc + 8 * (body.length + 2) } } := by
      rw [hf.exec_eq hs hphase, withSegment_of_whole hbytes hlen]
    have htables {i : Instr} {r : Except ErrKind JpegTables}
        (h : exec i s = .next { s with strip :=
          match r with
          | .error k => t.strip.fail k
          | .ok tables => { t.strip with codec := .jpeg { j with tables } } }) : exec i s = .next (acts r) := by
      rw [h]
      cases r <;> rfl
    refine ⟨hexec .com, fun n => hexec (.appn n), htables (hexec .dqt), htables (hexec .dht), ?_⟩
    rw [htables (r := dri body j.tables) (hexec .dri)]
    match body with
    | [x, y] => rfl
    | [] | [_] | _ :: _ :: _ :: _ => rfl

/-! ### Table sets (R44, R317, R318) -/

section Quads

variable {α : Type} {i k : Nat}

theorem Quad.get_put_same (q : Quad α) (hi : i < 4) (v : α) : (q.put i v).get i = v := by
  interval_cases i <;> rfl

theorem Quad.get_put_ne (q : Quad α) (hi : i < 4) (hk : k < 4) (h : i ≠ k) (v : α) :
    (q.put k v).get i = q.get i := by
  interval_cases k <;> interval_cases i <;> first | rfl | exact absurd rfl h

/-- What holds of every defined thing of four still does when one more thing of which it holds is put in. -/
theorem Quad.put_forall {P : α → Prop} {q : Quad (Option α)} (h : ∀ i < 4, ∀ x, q.get i = some x → P x)
    (hk : k < 4) {v : α} (hv : P v) : ∀ i < 4, ∀ x, (q.put k (some v)).get i = some x → P x := by
  intro i hi x hx
  by_cases hik : i = k
  · subst hik
    rw [q.get_put_same hi] at hx
    cases hx
    exact hv
  · rw [q.get_put_ne hi hk hik] at hx
    exact h i hi x hx

end Quads

theorem JpegTables.reset_wf : JpegTables.reset.Wf := by
  refine ⟨fun i hi l hl => ?_, fun i hi h hh => ?_, fun i hi h hh => ?_⟩
  · interval_cases i <;> cases hl
  · interval_cases i <;> cases hh
  · interval_cases i <;> cases hh

@[simp] theorem natural_length {α : Type} (l : List α) (d : α) : (natural l d).length = 64 := by
  simp [natural]

theorem Byte.lowNibble_lt_four {h : Byte} {k : Nat} (hk : ¬ (1 < k ∨ 3 < (nibbles h).2)) : (nibbles h).2 < 4 := by
  omega

theorem parseDqt_wf (n : Nat) : ∀ {body : List Byte} {T T' : JpegTables}, T.Wf → parseDqt n body T = .ok T' →
    T'.Wf := by
  induction n with
  | zero =>
    intro body T T' hT h
    cases body with
    | nil => cases h; exact hT
    | cons b body => cases h
  | succ n ih =>
    intro body T T' hT h
    cases body with
    | nil => cases h; exact hT
    | cons b body =>
      simp only [parseDqt] at h
      split_ifs at h with hnumber
      all_goals
        refine ih ?_ h
        exact ⟨Quad.put_forall hT.q (Byte.lowNibble_lt_four hnumber) (natural_length _ _), hT.dc, hT.ac⟩

theorem buildHuff_some {bits : List Nat} {hv : List Byte} {h : HuffTable} (hb : buildHuff bits hv = some h) :
    h.bits = bits ∧ h.huffval = hv ∧ h.mincode.zip (h.maxcode.zip h.valptr) = huffLimits bits 0 0 := by
  obtain ⟨gen, _, rfl⟩ := Option.map_eq_some_iff.mp hb
  refine ⟨rfl, rfl, ?_⟩
  dsimp only
  rw [List.zip_map', List.zip_map', List.map_id'']
  rintro ⟨x, y, z⟩
  rfl

theorem huffTableOk_of_buildHuff {bits : List Nat} {hv : List Byte} {h : HuffTable} (hbits : bits.length = 16)
    (hlen : hv.length = bits.sum) (hb : buildHuff bits hv = some h) : huffTableOk h = true := by
  obtain ⟨rfl, rfl, _⟩ := buildHuff_some hb
  simp [huffTableOk, hbits, hlen, hb]

/-- The table that the builder makes of a DHT segment's bytes is whole. -/
theorem huffTableOk_of_segment {rest : List Byte} {h : HuffTable} (hshort : ¬ rest.length < 16)
    (hvalues : ¬ (rest.drop 16).length < ((rest.take 16).map (·.toNat)).sum)
    (hb : buildHuff ((rest.take 16).map (·.toNat))
      ((rest.drop 16).take ((rest.take 16).map (·.toNat)).sum) = some h) : huffTableOk h = true := by
  refine huffTableOk_of_buildHuff ?_ ?_ hb
  · rw [List.length_map, List.length_take]
    omega
  · rw [List.length_take]
    omega

theorem parseDht_wf (n : Nat) : ∀ {body : List Byte} {T T' : JpegTables}, T.Wf → parseDht n body T = .ok T' →
    T'.Wf := by
  induction n with
  | zero =>
    intro body T T' hT h
    cases body with
    | nil => cases h; exact hT
    | cons b body => cases h
  | succ n ih =>
    intro body T T' hT h
    cases body with
    | nil => cases h; exact hT
    | cons b body =>
      simp only [parseDht] at h
      split_ifs at h with hnumber hshort hcount hvalues hclass
      all_goals
        split at h
        · cases h
        rename_i t ht
        have hok := huffTableOk_of_segment hshort hvalues ht
        refine ih ?_ h
      · exact ⟨hT.q, Quad.put_forall hT.dc (Byte.lowNibble_lt_four hnumber) hok, hT.ac⟩
      · exact ⟨hT.q, hT.dc, Quad.put_forall hT.ac (Byte.lowNibble_lt_four hnumber) hok⟩

theorem dqt_wf {body : List Byte} {T T' : JpegTables} (hT : T.Wf) (h : dqt body T = .ok T') : T'.Wf := by
  unfold dqt at h
  split_ifs at h
  exact parseDqt_wf _ hT h

theorem dht_wf {body : List Byte} {T T' : JpegTables} (hT : T.Wf) (h : dht body T = .ok T') : T'.Wf := by
  unfold dht at h
  split_ifs at h
  exact parseDht_wf _ hT h

theorem dri_wf {body : List Byte} {T T' : JpegTables} (hT : T.Wf) (h : dri body T = .ok T') : T'.Wf := by
  unfold dri at h
  split at h
  · cases h
    exact ⟨hT.q, hT.dc, hT.ac⟩
  · cases h

/-! ### DQT (R317, R332) -/

/-- ZZ names each natural position once. -/
theorem zigzag_idxOf : ∀ k < 64, zigzag.getD k 0 < 64 ∧ zigzag.idxOf (zigzag.getD k 0) = k := by decide

theorem natural_getElem? {α : Type} (l : List α) (d : α) {k : Nat} (hk : k < 64) :
    (natural l d)[zigzag.getD k 0]? = some (l.getD k d) := by
  obtain ⟨hlt, hidx⟩ := zigzag_idxOf k hk
  rw [natural, List.getElem?_map, List.getElem?_range hlt, Option.map_some, hidx]

theorem parseDqt_nil (n : Nat) (T : JpegTables) : parseDqt n [] T = .ok T := by
  cases n <;> rfl

/-- A DQT segment of one table of bytes or of byte pairs. -/
theorem dqt_single {pq tq : Nat} (hpq : pq ≤ 1) (htq : tq < 4) {v : List Byte}
    (hv : v.length = if pq = 0 then 64 else 128) (T : JpegTables) :
    dqt (BitVec.ofNat 8 (16 * pq + tq) :: v) T = .ok
      { T with q := T.q.put tq (some (natural (if pq = 0 then v.map (·.setWidth 16) else pairs v) 0)) } := by
  have hnibbles : nibbles (BitVec.ofNat 8 (16 * pq + tq)) = (pq, tq) := by
    rw [nibbles, BitVec.toNat_ofNat]
    exact Prod.ext (by dsimp only; omega) (by dsimp only; omega)
  rw [dqt, if_neg (List.cons_ne_nil _ _), List.length_cons, parseDqt, hnibbles]
  dsimp only
  rw [← hv, if_neg (by omega), if_neg (lt_irrefl _), List.drop_length, parseDqt_nil]
  split_ifs at hv ⊢
  · rw [← hv, List.take_length]
  · rw [← hv, List.take_length]

theorem pairs_getD (v : List Byte) : ∀ k, 2 * k + 1 < v.length →
    (pairs v).getD k 0 = (v.getD (2 * k) 0 ++ v.getD (2 * k + 1) 0 : BitVec 16) := by
  induction v using pairs.induct with
  | case1 a b rest ih =>
    intro k hk
    cases k with
    | zero => rfl
    | succ k => exact ih k (by rw [List.length_cons, List.length_cons] at hk; omega)
  | case2 v hv =>
    intro k hk
    match v with
    | [] => exact absurd hk (Nat.not_lt_zero _)
    | [_] => exact absurd hk (by rw [List.length_singleton]; omega)
    | a :: b :: rest => exact absurd rfl (hv a b rest)

/-- Settles O48: a segment of one table is parsed at once, and ZZ undoes the natural order. -/
theorem dqtStoresNaturalOrder : Obligations.DqtStoresNaturalOrder := by
  intro T tq v htq
  refine ⟨fun hv => ?bytes, fun hv => ?pairs⟩
  case bytes =>
    have hdqt := dqt_single (pq := 0) (by decide) htq (v := v) hv T
    rw [Nat.mul_zero, Nat.zero_add, if_pos rfl] at hdqt
    refine ⟨_, _, hdqt, Quad.get_put_same _ htq _, natural_length _ _, fun k hk => ?_,
      fun i hi hne => Quad.get_put_ne _ hi htq hne _, rfl⟩
    have hk' : k < (v.map (·.setWidth 16)).length := by rw [List.length_map]; omega
    rw [natural_getElem? _ _ hk, List.getD_eq_getElem _ _ hk', ← List.getElem?_map]
    exact (List.getElem?_eq_getElem hk').symm
  case pairs =>
    refine ⟨_, _, dqt_single (pq := 1) (le_refl 1) htq (v := v) hv T, Quad.get_put_same _ htq _, natural_length _ _,
      fun k hk => ?_, fun i hi hne => Quad.get_put_ne _ hi htq hne _, rfl⟩
    rw [if_neg Nat.one_ne_zero, List.getD_eq_getElem?_getD, natural_getElem? _ _ hk, Option.getD_some,
      pairs_getD v k (by omega), BitVec.toNat_append, Nat.shiftLeft_eq, ← Nat.shiftLeft_eq,
      ← Nat.shiftLeft_add_eq_or_of_lt (BitVec.isLt _), Nat.shiftLeft_eq, Nat.mul_comm]

end Sys2Proof.Machine

/-! The JPEG unit: frame and scan headers, entropy-coded symbols and blocks (spec/47_jpeg.md R320, R327 to R338,
R370). -/

namespace Sys2Proof.Machine

open Sys2Proof Host

/-! ### The frame header (R320) -/

/-- Component `i` of the records of a frame header. -/
def frameComp (recs : List Byte) (i : Nat) : JpegComp where
  id := (recs.getD (3 * i) 0).toNat
  h := (recs.getD (3 * i + 1) 0).toNat / 16
  v := (recs.getD (3 * i + 1) 0).toNat % 16
  tq := (recs.getD (3 * i + 2) 0).toNat

theorem frameComps_eq (n : Nat) : ∀ recs : List Byte, recs.length = 3 * n →
    frameComps recs = (List.range n).map (frameComp recs) := by
  induction n with
  | zero =>
    intro recs h
    obtain rfl := List.length_eq_zero_iff.mp h
    rfl
  | succ n ih =>
    intro recs h
    match recs with
    | c :: hv :: tq :: rest =>
      have hrest : rest.length = 3 * n := by simp only [List.length_cons] at h; omega
      rw [frameComps, ih rest hrest, List.range_succ_eq_map, List.map_cons, List.map_map]
      rfl
    | [] | [_] | [_, _] => simp only [List.length_cons, List.length_nil] at h; omega

theorem frameComps_length {n : Nat} {recs : List Byte} (h : recs.length = 3 * n) :
    (frameComps recs).length = n := by
  rw [frameComps_eq n recs h, List.length_map, List.length_range]

/-- A component's factors and table number are in range (R320). -/
def JpegComp.InRange (c : JpegComp) : Prop :=
  1 ≤ c.h ∧ c.h ≤ 4 ∧ 1 ≤ c.v ∧ c.v ≤ 4 ∧ c.tq ≤ 3

theorem compsInRange_iff (comps : List JpegComp) :
    ¬ (comps.any fun c => !(decide (1 ≤ c.h ∧ c.h ≤ 4 ∧ 1 ≤ c.v ∧ c.v ≤ 4 ∧ c.tq ≤ 3))) = true ↔
      ∀ c ∈ comps, c.InRange := by
  simp [JpegComp.InRange, Nat.one_le_iff_ne_zero]

/-- A frame header that passes every check is stored. -/
theorem sof_eq_ok {L : Latched} {y1 y0 x1 x0 nf : Byte} {recs : List Byte} (hn : 1 ≤ nf.toNat)
    (hlen : recs.length = 3 * nf.toNat) (hrange : ∀ c ∈ frameComps recs, c.InRange)
    (hids : ((frameComps recs).map (·.id)).Nodup)
    (hsum : 1 < nf.toNat → ((frameComps recs).map fun c => c.h * c.v).sum ≤ 10) (hy : 1 ≤ be16 y1 y0)
    (hx : be16 x1 x0 = L.width.toNat) (hnc : nf.toNat = L.nc) :
    sof L (8 :: y1 :: y0 :: x1 :: x0 :: nf :: recs) =
      .ok { y := be16 y1 y0, x := be16 x1 x0, comps := frameComps recs } := by
  rw [sof]
  rw [if_neg (not_not_intro (show (8 : Byte).toNat = 8 from rfl)), if_neg (by omega),
    if_neg ((compsInRange_iff _).mpr hrange),
    if_neg (not_not_intro hids), if_neg (fun h => absurd (hsum h.1) (Nat.not_le.mpr h.2)), if_neg (by omega),
    if_neg (not_or.mpr ⟨not_not_intro hx, not_not_intro hnc⟩)]

/-- A frame that is stored has passed every check. -/
theorem sof_ok {L : Latched} {body : List Byte} {f : JpegFrame} (h : sof L body = .ok f) :
    body.head? = some 8 ∧ body.length = 6 + 3 * f.comps.length ∧ f.x = L.width.toNat ∧ f.comps.length = L.nc ∧
      1 ≤ f.comps.length ∧ 1 ≤ f.y ∧ (f.comps.map (·.id)).Nodup ∧
      (1 < f.comps.length → (f.comps.map fun c => c.h * c.v).sum ≤ 10) ∧ ∀ c ∈ f.comps, c.InRange := by
  unfold sof at h
  split at h
  case h_2 => cases h
  case h_3 => cases h
  case h_1 p y1 y0 x1 x0 nf rest =>
    dsimp only at h
    split_ifs at h with hp hn hrange hids hsum hy hx
    cases h
    obtain ⟨hn0, hlen⟩ := not_or.mp hn
    obtain ⟨hwidth, hnc⟩ := not_or.mp hx
    have hcount : (frameComps rest).length = nf.toNat := frameComps_length (not_not.mp hlen)
    have hp8 : p = 8 := BitVec.eq_of_toNat_eq (not_not.mp hp)
    dsimp only
    rw [hcount]
    refine ⟨congrArg some hp8, ?_, not_not.mp hwidth, not_not.mp hnc, by omega, by omega, hids,
      fun hone => ?_, (compsInRange_iff _).mp hrange⟩
    · simp only [List.length_cons]
      omega
    · exact Nat.not_lt.mp fun hbig => hsum ⟨hone, hbig⟩

theorem sof_precision {L : Latched} {p : Byte} (hp : p ≠ 8) (more : List Byte) :
    sof L (p :: more) = .error .jpegPrecision := by
  have hp' : p.toNat ≠ 8 := fun h => hp (BitVec.eq_of_toNat_eq h)
  unfold sof
  split
  · rename_i heq
    cases heq
    exact if_pos hp'
  · rename_i heq
    cases heq
    rw [if_pos hp']
  · rename_i heq
    cases heq

/-- SOF0 and SOF1 where a first frame header may stand. -/
theorem exec_sof {s : State} {j : JpegState} {a b : Byte} {body rest : List Byte} (hs : s.atJpeg j)
    (hphase : j.phase = .header) (htables : j.tablesOnly = false) (hframe : j.frame = none)
    (hbytes : s.strip.bytes = a :: b :: (body ++ rest)) (hlen : be16 a b = body.length + 2) {i : Instr}
    (hi : i = .jpegSof0 ∨ i = .jpegSof1) :
    exec i s = .next (s.withStrip
      (match sof s.strip.cfg body with
      | .error k => { s.strip with bc := s.strip.bc + 8 * (body.length + 2), term := some (.error k) }
      | .ok f =>
        { s.strip with
          bc := s.strip.bc + 8 * (body.length + 2)
          codec := .jpeg { j with frame := some f } })) := by
  have hact : exec i s = .next { s with strip := sofAct j s.strip } := by
    rcases hi with rfl | rfl
    · exact MarkerMeaning.sof0.exec_act hs (.inl hphase)
    · exact MarkerMeaning.sof1.exec_act hs (.inl hphase)
  rw [hact, sofAct, if_neg (by simp [hphase, htables, hframe]), withSegment_of_whole hbytes hlen]
  rfl

/-- Settles O49: the checks of `sof` in order, read both ways. -/
theorem jpegFrameHeader : Obligations.JpegFrameHeader := by
  intro s j a b body rest hs hphase htables hframe hbytes hlen L st stores
  have hexec {i : Instr} (hi : i = .jpegSof0 ∨ i = .jpegSof1) :=
    exec_sof hs hphase htables hframe hbytes hlen hi
  refine ⟨fun y1 y0 x1 x0 nf recs hbody => ?stored,
    fun f hf => ⟨fun i hi => ?ok, sof_ok hf⟩, fun k hk i hi => ?error, fun p more hbody hp => ?precision⟩
  case stored =>
    intro n field hn hrecs hrange hids hsum hy hx hnc i hi
    have hcomps : frameComps recs = (List.range n).map (frameComp recs) := frameComps_eq n recs hrecs
    have hsof := sof_eq_ok (L := L) (y1 := y1) (y0 := y0) (x1 := x1) (x0 := x0) hn hrecs ?_ ?_ ?_ hy hx hnc
    · rw [hexec hi, hbody, hsof, hcomps, ← hbody]
      rfl
    · rw [hcomps]
      intro c hc
      obtain ⟨i, hi, rfl⟩ := List.mem_map.mp hc
      exact hrange i (List.mem_range.mp hi)
    · rw [hcomps, List.map_map]
      refine List.Nodup.map_on ?_ List.nodup_range
      intro i hi k hk heq
      rcases Nat.lt_trichotomy i k with h | h | h
      · exact absurd heq (hids k (List.mem_range.mp hk) i h)
      · exact h
      · exact absurd heq.symm (hids i (List.mem_range.mp hi) k h)
    · intro hone
      rw [hcomps, List.map_map]
      exact hsum hone
  case ok => rw [hexec hi, hf]; rfl
  case error => rw [hexec hi, hk]; rfl
  case precision =>
    rw [hbody]
    exact sof_precision hp more

/-! ### The scan header (R328) -/

/-- Selector `i` of a scan header: the component it names and the tables it selects. -/
def scanSel (sel : List Byte) (i : Nat) : Nat × JpegScanComp :=
  ((sel.getD (2 * i) 0).toNat,
    { td := (sel.getD (2 * i + 1) 0).toNat / 16, ta := (sel.getD (2 * i + 1) 0).toNat % 16 })

theorem scanComps_eq (n : Nat) : ∀ sel : List Byte, sel.length = 2 * n →
    scanComps sel = (List.range n).map (scanSel sel) := by
  induction n with
  | zero =>
    intro sel h
    obtain rfl := List.length_eq_zero_iff.mp h
    rfl
  | succ n ih =>
    intro sel h
    match sel with
    | c :: tt :: rest =>
      have hrest : rest.length = 2 * n := by simp only [List.length_cons] at h; omega
      rw [scanComps, ih rest hrest, List.range_succ_eq_map, List.map_cons, List.map_map]
      rfl
    | [] | [_] => simp only [List.length_cons, List.length_nil] at h; omega

/-- The scan names the components of the frame in order, and every table it uses is defined (R328). -/
structure ScanOk (T : JpegTables) (f : JpegFrame) (sel : List (Nat × JpegScanComp)) : Prop where
  ids : sel.map (·.1) = f.comps.map (·.id)
  numbers : ∀ c ∈ sel.map (·.2), c.td ≤ 3 ∧ c.ta ≤ 3
  huff : ∀ c ∈ sel.map (·.2), (T.dc.get c.td).isSome = true ∧ (T.ac.get c.ta).isSome = true
  quant : ∀ c ∈ f.comps, (T.q.get c.tq).isSome = true

theorem scanNumbers_iff (scan : List JpegScanComp) :
    ¬ (scan.any fun c => decide (3 < c.td ∨ 3 < c.ta)) = true ↔ ∀ c ∈ scan, c.td ≤ 3 ∧ c.ta ≤ 3 := by
  simp

theorem tablesDefined_iff (T : JpegTables) (comps : List JpegComp) (scan : List JpegScanComp) :
    ¬ (!tablesDefined T comps scan) = true ↔
      (∀ c ∈ comps, (T.q.get c.tq).isSome = true) ∧
        ∀ c ∈ scan, (T.dc.get c.td).isSome = true ∧ (T.ac.get c.ta).isSome = true := by
  simp only [Bool.not_eq_true', Bool.not_eq_false, tablesDefined, Bool.and_eq_true, List.all_eq_true]

/-- A scan header that passes every check starts the scan. -/
theorem sos_eq_ok {T : JpegTables} {f : JpegFrame} {ns : Byte} {sel : List Byte} (hn : ns.toNat = f.comps.length)
    (h1 : 1 ≤ ns.toNat) (h4 : ns.toNat ≤ 4) (hlen : sel.length = 2 * ns.toNat)
    (hscan : ScanOk T f (scanComps sel)) :
    sos T f (ns :: (sel ++ [0, 63, 0])) = .ok ((scanComps sel).map (·.2)) := by
  have hrest : (sel ++ [(0 : Byte), 63, 0]).length = 2 * ns.toNat + 3 := by
    rw [List.length_append, hlen]
    rfl
  rw [sos]
  rw [← hlen, List.take_left, List.drop_left, hlen, if_neg (by omega), if_neg (not_not_intro hn),
    if_neg (not_or.mpr ⟨not_not_intro hscan.ids, (scanNumbers_iff _).mpr hscan.numbers⟩),
    if_neg (not_not_intro rfl), if_neg ((tablesDefined_iff T f.comps _).mpr ⟨hscan.quant, hscan.huff⟩)]

/-- A scan that starts has passed every check. -/
theorem sos_ok {T : JpegTables} {f : JpegFrame} {body : List Byte} {scan : List JpegScanComp}
    (h : sos T f body = .ok scan) :
    ∃ ns rest, body = ns :: rest ∧ ns.toNat = f.comps.length ∧ 1 ≤ ns.toNat ∧ ns.toNat ≤ 4 ∧
      rest.length = 2 * ns.toNat + 3 ∧ rest.drop (2 * ns.toNat) = [0, 63, 0] ∧
      ScanOk T f (scanComps (rest.take (2 * ns.toNat))) ∧
      scan = (scanComps (rest.take (2 * ns.toNat))).map (·.2) := by
  unfold sos at h
  split at h
  case h_1 => cases h
  case h_2 ns rest =>
    dsimp only at h
    split_ifs at h with hcount hmulti hsel htail hdefined
    cases h
    obtain ⟨h1, h4, hlen⟩ : 1 ≤ ns.toNat ∧ ns.toNat ≤ 4 ∧ rest.length = 2 * ns.toNat + 3 := by omega
    obtain ⟨hids, hnumbers⟩ := not_or.mp hsel
    obtain ⟨hquant, hhuff⟩ := (tablesDefined_iff T f.comps _).mp hdefined
    exact ⟨ns, rest, rfl, not_not.mp hmulti, h1, h4, hlen, not_not.mp htail,
      ⟨not_not.mp hids, (scanNumbers_iff _).mp hnumbers, hhuff, hquant⟩, rfl⟩

/-- SOS where a scan header may stand. -/
theorem exec_sos {s : State} {j : JpegState} {f : JpegFrame} {a b : Byte} {body rest : List Byte}
    (hs : s.atJpeg j) (hphase : j.phase = .header) (htables : j.tablesOnly = false) (hframe : j.frame = some f)
    (htotal : 1 ≤ f.total) (hbytes : s.strip.bytes = a :: b :: (body ++ rest))
    (hlen : be16 a b = body.length + 2) :
    exec .jpegSos s = .next (s.withStrip
      (match sos j.tables f body with
      | .error k => { s.strip with bc := s.strip.bc + 8 * (body.length + 2), term := some (.error k) }
      | .ok scan =>
        { s.strip with
          bc := s.strip.bc + 8 * (body.length + 2)
          codec := .jpeg
            { j with
              scan, phase := .entropy, preds := List.replicate f.comps.length 0, mcu := 0, block := 0
              zz := [], ebuf := [], blocks := [] } })) := by
  have hphase' : ¬ f.total = 0 := by omega
  rw [MarkerMeaning.sos.exec_act hs (.inl hphase), sosAct, if_neg (by simp [hphase])]
  simp only [htables, hframe]
  rw [withSegment_of_whole hbytes hlen]
  cases sos j.tables f body with
  | error k => rfl
  | ok scan =>
    dsimp only
    rw [if_neg hphase']
    rfl

/-- The scan's components are the frame's in order, with tables that are defined, where its bytes say so. -/
theorem scanOk_of_fields {T : JpegTables} {f : JpegFrame} {sel : List Byte} (hsel : sel.length = 2 * f.comps.length)
    (hids : ∀ i < f.comps.length, some (sel.getD (2 * i) 0).toNat = f.comps[i]?.map (·.id))
    (hnumbers : ∀ i < f.comps.length,
      (sel.getD (2 * i + 1) 0).toNat / 16 ≤ 3 ∧ (sel.getD (2 * i + 1) 0).toNat % 16 ≤ 3 ∧
        (T.dc.get ((sel.getD (2 * i + 1) 0).toNat / 16)).isSome = true ∧
        (T.ac.get ((sel.getD (2 * i + 1) 0).toNat % 16)).isSome = true)
    (hquant : ∀ c ∈ f.comps, (T.q.get c.tq).isSome = true) : ScanOk T f (scanComps sel) := by
  have hcomps := scanComps_eq f.comps.length sel hsel
  have hids' : (scanComps sel).map (·.1) = f.comps.map (·.id) := by
    rw [hcomps, List.map_map]
    refine List.ext_getElem? fun i => ?_
    rw [List.getElem?_map, List.getElem?_map]
    rcases lt_or_ge i f.comps.length with hi | hi
    · rw [List.getElem?_range hi, ← hids i hi]
      rfl
    · rw [List.getElem?_eq_none (by simpa using hi), List.getElem?_eq_none hi]
      rfl
  have hmem : ∀ c ∈ (scanComps sel).map (·.2), ∃ i < f.comps.length,
      c = { td := (sel.getD (2 * i + 1) 0).toNat / 16, ta := (sel.getD (2 * i + 1) 0).toNat % 16 } := by
    rw [hcomps, List.map_map]
    intro c hc
    obtain ⟨i, hi, rfl⟩ := List.mem_map.mp hc
    exact ⟨i, List.mem_range.mp hi, rfl⟩
  refine ⟨hids', fun c hc => ?_, fun c hc => ?_, hquant⟩
  · obtain ⟨i, hi, rfl⟩ := hmem c hc
    obtain ⟨htd, hta, _⟩ := hnumbers i hi
    exact ⟨htd, hta⟩
  · obtain ⟨i, hi, rfl⟩ := hmem c hc
    obtain ⟨_, _, hdc, hac⟩ := hnumbers i hi
    exact ⟨hdc, hac⟩

/-- Settles O50: the checks of `sos` in order, read both ways. -/
theorem jpegScanHeader : Obligations.JpegScanHeader := by
  intro s j f a b body rest hs hphase htables hframe htotal hbytes hlen T n st starts
  have hexec := exec_sos hs hphase htables hframe htotal hbytes hlen
  refine ⟨fun sel hbody => ?starts, fun scan hscan => ⟨?ok, ?facts⟩,
    fun k hk => ?error⟩
  case starts =>
    intro tables h1 h4 hsel hids hnumbers hquant
    have hn : (BitVec.ofNat 8 n).toNat = n := by rw [BitVec.toNat_ofNat]; omega
    have hcomps := scanComps_eq n sel hsel
    have hok : ScanOk T f (scanComps sel) := scanOk_of_fields hsel hids hnumbers hquant
    have hsos : sos j.tables f (BitVec.ofNat 8 n :: (sel ++ [0, 63, 0])) = .ok ((scanComps sel).map (·.2)) :=
      sos_eq_ok hn (by omega) (by omega) (by rw [hn, hsel]) hok
    rw [hexec, hbody, hsos, hcomps, List.map_map, ← hbody]
    rfl
  case ok => rw [hexec, hscan]; rfl
  case error => rw [hexec, hk]; rfl
  case facts =>
    obtain ⟨ns, more, hbody, hns, h1, h4, hmore, htail, hok, hsel⟩ := sos_ok hscan
    have htake : (more.take (2 * ns.toNat)).length = 2 * ns.toNat := by rw [List.length_take]; omega
    have hcomps := scanComps_eq ns.toNat _ htake
    have hgetD (k : Nat) (hk : k < 2 * ns.toNat) : (more.take (2 * ns.toNat)).getD k 0 = body.getD (1 + k) 0 := by
      rw [hbody, Nat.add_comm, List.getD_cons_succ, List.getD_eq_getElem?_getD, List.getElem?_take_of_lt hk,
        ← List.getD_eq_getElem?_getD]
    have hscanlen : scan.length = ns.toNat := by
      rw [hsel, hcomps, List.length_map, List.length_map, List.length_range]
    have hnth : ∀ i < n, (scanComps (more.take (2 * ns.toNat)))[i]? = some ((body.getD (1 + 2 * i) 0).toNat,
        { td := (body.getD (2 + 2 * i) 0).toNat / 16, ta := (body.getD (2 + 2 * i) 0).toNat % 16 }) := by
      intro i hi
      have hi' : i < ns.toNat := hns ▸ hi
      have hnext : 2 + 2 * i = 1 + (2 * i + 1) := by omega
      rw [hcomps, List.getElem?_map, List.getElem?_range hi', hnext, ← hgetD _ (by omega), ← hgetD _ (by omega)]
      rfl
    have hn : ns.toNat = n := hns
    refine ⟨hscanlen.trans hn, by omega, by omega, ?_, ?_, fun i hi => ⟨?_, ?_⟩, ?_, hok.quant, fun c hc => ?_⟩
    · rw [hbody, List.length_cons]
      omega
    · rw [hbody]
      exact hns
    · have hid := congrArg (·[i]?) hok.ids
      simp only [List.getElem?_map, hnth i hi, Option.map_some] at hid
      exact hid
    · rw [hsel, List.getElem?_map, hnth i hi, Option.map_some]
    · rw [hbody, Nat.add_comm, List.drop_succ_cons, ← hn]
      exact htail
    · rw [hsel] at hc
      obtain ⟨htd, hta⟩ := hok.numbers c hc
      obtain ⟨hdc, hac⟩ := hok.huff c hc
      exact ⟨htd, hta, hdc, hac⟩

/-! ### Entropy-coded symbols (R138, R330, R331) -/

theorem stuffStep_entropy {j : JpegState} (h : j.phase = .entropy) (st : StripState) :
    stuffStep j st = { st with codec := .jpeg { j with ebuf := j.ebuf ++ List.replicate 8 true } } := by
  unfold stuffStep
  rw [h]

theorem exec_jpegStuff {s : State} {j : JpegState} (h : s.atJpeg j) :
    exec .jpegStuff s = .next { s with strip := stuffStep j s.strip } :=
  h.onMarker_eq stuffStep

theorem exec_jpegDcSymbol {s : State} {j : JpegState} (h : s.atJpeg j) (hphase : j.phase = .entropy)
    (hzz : j.zz = []) (t : BitVec 8) (v : BitVec 16) :
    exec (.jpegDcSymbol t v) s = .next { s with strip := dcStep t.toNat v.toNat j s.strip } :=
  h.onJpeg_eq (by simp [symbolHere, hphase, hzz]) _

theorem exec_jpegAcSymbol {s : State} {j : JpegState} (h : s.atJpeg j) (hphase : j.phase = .entropy)
    (h1 : 1 ≤ j.zz.length) (h63 : j.zz.length ≤ 63) (rs : BitVec 8) (v : BitVec 16) :
    exec (.jpegAcSymbol rs v) s = .next { s with strip := acStep Config.params rs.toNat v.toNat j s.strip } := by
  have hne : j.zz ≠ [] := List.length_pos_iff.mp h1
  have hlt : j.zz.length < 64 := by omega
  exact h.onJpeg_eq (by simp [symbolHere, hphase, hne, hlt]) _

/-- Where the coefficients read so far fill the block it is finished, else the block goes on. -/
def acGoOn (P : Params) (j : JpegState) (zz : List Int) (st : StripState) : StripState :=
  if 64 ≤ zz.length then finishBlock P j zz st else { st with codec := .jpeg { j with zz } }

theorem acStep_eq {r n : Nat} (hn : n < 16) (P : Params) (v : Nat) (j : JpegState) (st : StripState) :
    acStep P (16 * r + n) v j st =
      if n = 0 then
        if r = 15 then
          if 64 < j.zz.length + 16 then st.fail .jpegBadData else acGoOn P j (j.zz ++ List.replicate 16 0) st
        else finishBlock P j (j.zz ++ List.replicate (64 - j.zz.length) 0) st
      else if 10 < n ∨ 63 < j.zz.length + r then st.fail .jpegBadData
      else acGoOn P j (j.zz ++ List.replicate r 0 ++ [extend v n]) st := by
  have hr : (16 * r + n) / 16 = r := by omega
  have hn' : (16 * r + n) % 16 = n := by omega
  unfold acStep
  rw [hr, hn']
  rfl

/-- Settles O51: each symbol at its place, and the branches of its action. -/
theorem jpegEntropySymbols : Obligations.JpegEntropySymbols := by
  intro s j hs hphase
  refine ⟨?stuff, fun hzz t v => ⟨fun ht => ?dcBad, fun ht => ?dc⟩, fun h1 h63 r n v hr hn => ?ac⟩
  case stuff =>
    rw [exec_jpegStuff hs, stuffStep_entropy hphase]
    rfl
  case dcBad =>
    rw [exec_jpegDcSymbol hs hphase hzz, dcStep, if_pos ht]
    rfl
  case dc =>
    intro pred
    rw [exec_jpegDcSymbol hs hphase hzz, dcStep, if_neg (Nat.not_lt.mpr ht)]
    rfl
  case ac =>
    intro k rs
    have hrs : rs.toNat = 16 * r + n := by
      rw [BitVec.toNat_ofNat]
      omega
    have hzeros (m : Nat) : (j.zz ++ List.replicate m (0 : Int)).length = k + m := by
      rw [List.length_append, List.length_replicate]
    have hcoef : (j.zz ++ List.replicate r 0 ++ [extend v.toNat n]).length = k + r + 1 := by
      rw [List.length_append, hzeros, List.length_singleton]
    rw [exec_jpegAcSymbol hs hphase h1 h63, hrs, acStep_eq hn]
    refine ⟨fun h0 h15 hk => ?_, fun h0 h15 hk => ?_, fun h0 h15 hk => ?_, fun h0 h15 => ?_, fun h0 hbad => ?_,
      fun h0 h10 hk => ?_, fun h0 h10 hk => ?_⟩
    · rw [if_pos h0, if_pos h15, if_pos (show 64 < k + 16 by omega)]
      rfl
    · rw [if_pos h0, if_pos h15, if_neg (show ¬ 64 < k + 16 by omega), acGoOn, hzeros, if_neg (by omega)]
      rfl
    · rw [if_pos h0, if_pos h15, if_neg (show ¬ 64 < k + 16 by omega), acGoOn, hzeros, if_pos (by omega)]
      rfl
    · rw [if_pos h0, if_neg (Nat.ne_of_lt h15)]
      rfl
    · rw [if_neg h0, if_pos hbad]
      rfl
    · rw [if_neg h0, if_neg (show ¬ (10 < n ∨ 63 < k + r) by omega), acGoOn, hcoef, if_neg (by omega)]
      rfl
    · rw [if_neg h0, if_neg (show ¬ (10 < n ∨ 63 < k + r) by omega), acGoOn, hcoef, if_pos (by omega)]
      rfl

/-! ### The end of a block (R329, R334, R335, R370) -/

/-- The state after a block whose samples have joined the MCU row's. -/
def JpegState.afterBlock (P : Params) (j : JpegState) (zz : List Int) : JpegState :=
  { j with
    zz := []
    blocks := j.blocks ++
      [blockSamples P ((j.tables.q.get (((j.frameD.comps[j.comp]?).map (·.tq)).getD 0)).getD []) zz]
    block := j.block + 1 }

theorem finishBlock_eq (P : Params) (j : JpegState) (zz : List Int) (st : StripState) :
    finishBlock P j zz st =
      if j.frameD.blockComps.length ≤ j.block + 1 then finishMcu (j.afterBlock P zz) st
      else { st with codec := .jpeg (j.afterBlock P zz) } := rfl

theorem finishMcu_eq (j : JpegState) (st : StripState) :
    finishMcu j st =
      if j.frameD.total ≤ j.mcu + 1 then
        { st with codec := .jpeg { j with mcu := j.mcu + 1, block := 0, phase := .tail, ebuf := [] } }
      else if 0 < j.tables.ri.toNat ∧ (j.mcu + 1) % j.tables.ri.toNat = 0 then
        { st with codec := .jpeg { j with mcu := j.mcu + 1, block := 0, phase := .restart, ebuf := [] } }
      else flushRow { j with mcu := j.mcu + 1, block := 0 } st := rfl

theorem flushRow_eq (j : JpegState) (st : StripState) :
    flushRow j st =
      if j.mcu % j.frameD.mcusPerRow = 0 ∧ j.mcu < j.frameD.total then
        { st with
          emitted := st.emitted ++ mcuRowBytes st.cfg j.frameD j.blocks (j.mcu / j.frameD.mcusPerRow - 1)
          codec := .jpeg { j with blocks := [] } }
      else { st with codec := .jpeg j } := rfl

/-- Settles O52: the branches of `finishBlock`, `finishMcu` and `flushRow`, which keep the frame. -/
theorem jpegBlockEnds : Obligations.JpegBlockEnds := by
  intro P j zz st f q blocks n ri goes
  have hframe : (j.afterBlock P zz).frameD = f := rfl
  have hri : (j.afterBlock P zz).tables.ri.toNat = ri := rfl
  have hmcu : (j.afterBlock P zz).mcu + 1 = n := rfl
  rw [finishBlock_eq, finishMcu_eq, hframe, hri, hmcu, flushRow_eq]
  refine ⟨fun hmore => ?_, fun hlast => ⟨fun hend => ?_, fun hlt hpos hdue => ?_, fun hlt hnot hrow => ?_,
    fun hlt hnot hrow => ?_⟩⟩
  · rw [if_neg (Nat.not_le.mpr hmore)]
    rfl
  · rw [if_pos hlast, if_pos hend]
    rfl
  · rw [if_pos hlast, if_neg (Nat.not_le.mpr hlt), if_pos ⟨hpos, hdue⟩]
    rfl
  · rw [if_pos hlast, if_neg (Nat.not_le.mpr hlt), if_neg (by omega), if_neg (fun h => hrow h.1)]
    rfl
  · rw [if_pos hlast, if_neg (Nat.not_le.mpr hlt), if_neg (by omega)]
    exact if_pos ⟨hrow, hlt⟩

/-! ### A block with its DC coefficient only (R332, R336, R337) -/

theorem natural_dc_only (d : Int) : natural (d :: List.replicate 63 0) 0 = d :: List.replicate 63 0 := rfl

theorem idct8_dc_only (m : Int) : Config.idct8 (8 * m :: List.replicate 63 0) = List.replicate 64 m := by
  have hmod : 8 * m % 8 = 0 := Int.mul_emod_right 8 m
  have hdiv : 8 * m / 8 = m := Int.mul_ediv_cancel_left m (by decide)
  rw [Config.idct8, if_pos ⟨rfl, rfl, hmod⟩, List.headD_cons, hdiv]

theorem zeros_dequantised (q : List (BitVec 16)) :
    ((List.replicate q.length (0 : Int)).zip q).map (fun p => p.1 * (p.2.toNat : Int)) =
      List.replicate q.length 0 := by
  induction q with
  | nil => rfl
  | cons a q ih =>
    rw [List.length_cons, List.replicate_succ, List.zip_cons_cons, List.map_cons, ih, Int.zero_mul]

/-- Settles O53: only the DC coefficient is left after dequantisation, and R336 fixes that block. -/
theorem dcOnlyBlock : Obligations.DcOnlyBlock := by
  intro q d m hq hd
  match q with
  | q0 :: qs =>
    have hqs : qs.length = 63 := Nat.succ.inj hq
    have hzeros := zeros_dequantised qs
    rw [hqs] at hzeros
    have hd' : d * (q0.toNat : Int) = 8 * m := hd
    rw [blockSamples, natural_dc_only, List.zip_cons_cons, List.map_cons, hzeros, hd']
    exact (congrArg _ (idct8_dc_only m)).trans List.map_replicate

/-! ### What the JPEG unit's actions leave -/

/-- A JPEG codec state with no more bits waiting than `j` has, its tables whole where those of `j` are. -/
def JpegState.Next (j : JpegState) (c : CodecState) : Prop :=
  ∃ j', c = .jpeg j' ∧ j'.ebuf.length ≤ j.ebuf.length ∧ (j.tables.Wf → j'.tables.Wf)

section JpegLeaves

variable {j : JpegState} {st : StripState}

theorem flushRow_leaves {g : JpegState} (hebuf : g.ebuf.length ≤ j.ebuf.length) (htables : g.tables = j.tables) :
    st.Leaves (fun _ => j.Next) (flushRow g st) := by
  rw [flushRow_eq]
  split_ifs
  · exact .emits ⟨_, rfl, hebuf, fun h => htables ▸ h⟩
  · exact .codec ⟨_, rfl, hebuf, fun h => htables ▸ h⟩

theorem finishBlock_leaves (P : Params) (zz : List Int) : st.Leaves (fun _ => j.Next) (finishBlock P j zz st) := by
  rw [finishBlock_eq]
  split_ifs
  · rw [finishMcu_eq]
    split_ifs
    · exact .codec ⟨_, rfl, Nat.zero_le _, id⟩
    · exact .codec ⟨_, rfl, Nat.zero_le _, id⟩
    · exact flushRow_leaves (le_refl _) rfl
  · exact .codec ⟨_, rfl, le_refl _, id⟩

theorem acGoOn_leaves (P : Params) (zz : List Int) : st.Leaves (fun _ => j.Next) (acGoOn P j zz st) := by
  unfold acGoOn
  split_ifs
  · exact finishBlock_leaves P zz
  · exact .codec ⟨_, rfl, le_refl _, id⟩

theorem dcStep_leaves (t v : Nat) : st.Leaves (fun _ => j.Next) (dcStep t v j st) := by
  unfold dcStep
  split_ifs
  · exact .fail rfl
  · exact .codec ⟨_, rfl, le_refl _, id⟩

theorem acStep_leaves (P : Params) (rs v : Nat) : st.Leaves (fun _ => j.Next) (acStep P rs v j st) := by
  have hrs : rs = 16 * (rs / 16) + rs % 16 := (Nat.div_add_mod rs 16).symm
  rw [hrs, acStep_eq (Nat.mod_lt _ (by decide))]
  split_ifs
  · exact .fail rfl
  · exact acGoOn_leaves P _
  · exact finishBlock_leaves P _
  · exact .fail rfl
  · exact acGoOn_leaves P _

theorem EntropyAction.leaves {x : JpegState} {f : JpegState → StripState → StripState} (h : EntropyAction x f) :
    st.Leaves (fun _ => j.Next) (f j st) := by
  cases h with
  | dc t v => exact dcStep_leaves t v
  | ac rs v => exact acStep_leaves _ rs v

/-- Every error of a parse is of the kinds a stream can end with (R422). -/
def ErrorsInStream {α : Type} (r : Except ErrKind α) : Prop :=
  ∀ k, r = .error k → k.inStream = true

theorem ErrorsInStream.ok {α : Type} (a : α) : ErrorsInStream (.ok a) := nofun

theorem ErrorsInStream.error {α : Type} {k : ErrKind} (h : k.inStream = true) :
    ErrorsInStream (.error k : Except ErrKind α) := by
  rintro _ ⟨⟩
  exact h

theorem ErrorsInStream.ite {α : Type} {c : Prop} [Decidable c] {r r' : Except ErrKind α} (h : ErrorsInStream r)
    (h' : ErrorsInStream r') : ErrorsInStream (if c then r else r') := by
  split_ifs
  · exact h
  · exact h'

theorem parseDqt_errors (n : Nat) : ∀ (body : List Byte) (T : JpegTables), ErrorsInStream (parseDqt n body T) := by
  induction n with
  | zero =>
    intro body T
    cases body with
    | nil => exact .ok T
    | cons b body => exact .error rfl
  | succ n ih =>
    intro body T
    cases body with
    | nil => exact .ok T
    | cons b body => exact .ite (.error rfl) (.ite (.error rfl) (ih _ _))

theorem parseDht_errors (n : Nat) : ∀ (body : List Byte) (T : JpegTables), ErrorsInStream (parseDht n body T) := by
  induction n with
  | zero =>
    intro body T
    cases body with
    | nil => exact .ok T
    | cons b body => exact .error rfl
  | succ n ih =>
    intro body T
    cases body with
    | nil => exact .ok T
    | cons b body =>
      refine .ite (.error rfl) (.ite (.error rfl) (.ite (.error rfl) (.ite (.error rfl) ?_)))
      split
      · exact .error rfl
      · exact ih _ _

theorem dqt_errors (body : List Byte) (T : JpegTables) : ErrorsInStream (dqt body T) :=
  .ite (.error rfl) (parseDqt_errors _ _ _)

theorem dht_errors (body : List Byte) (T : JpegTables) : ErrorsInStream (dht body T) :=
  .ite (.error rfl) (parseDht_errors _ _ _)

theorem dri_errors (body : List Byte) (T : JpegTables) : ErrorsInStream (dri body T) := by
  unfold dri
  split
  · exact .ok _
  · exact .error rfl

theorem sof_errors (L : Latched) (body : List Byte) : ErrorsInStream (sof L body) := by
  unfold sof
  split
  · exact .ite (.error rfl) (.ite (.error rfl) (.ite (.error rfl) (.ite (.error rfl) (.ite (.error rfl)
      (.ite (.error rfl) (.ite (.error rfl) (.ok _)))))))
  · refine .error ?_
    split_ifs <;> rfl
  · exact .error rfl

theorem sos_errors (T : JpegTables) (f : JpegFrame) (body : List Byte) : ErrorsInStream (sos T f body) := by
  unfold sos
  split
  · exact .error rfl
  · exact .ite (.error rfl) (.ite (.error rfl) (.ite (.error rfl) (.ite (.error rfl) (.ite (.error rfl) (.ok _)))))

theorem tablesAct_leaves {parse : List Byte → JpegTables → Except ErrKind JpegTables}
    (hwf : ∀ {body T T'}, T.Wf → parse body T = .ok T' → T'.Wf)
    (herr : ∀ body T, ErrorsInStream (parse body T)) : st.Leaves (fun _ => j.Next) (tablesAct parse j st) := by
  refine withSegment_leaves fun body n => ?_
  split
  · rename_i k hparse
    exact .fail (herr _ _ k hparse)
  · rename_i T hparse
    exact .codec ⟨_, rfl, le_refl _, fun hj => hwf hj hparse⟩

theorem sofAct_leaves : st.Leaves (fun _ => j.Next) (sofAct j st) := by
  unfold sofAct
  split_ifs
  · exact .fail rfl
  refine withSegment_leaves fun body n => ?_
  split
  · rename_i k hsof
    exact .fail (sof_errors _ _ k hsof)
  · exact .codec ⟨_, rfl, le_refl _, id⟩

theorem sosAct_leaves : st.Leaves (fun _ => j.Next) (sosAct j st) := by
  unfold sosAct
  split_ifs
  · exact .fail rfl
  split
  · refine withSegment_leaves fun body n => ?_
    split
    · rename_i k hsos
      exact .fail (sos_errors _ _ _ k hsos)
    · exact .codec ⟨_, rfl, Nat.zero_le _, id⟩
  · exact .fail rfl

theorem skipAct_leaves (hcodec : st.codec = .jpeg j) : st.Leaves (fun _ => j.Next) (skipAct j st) :=
  withSegment_leaves fun _ n => .codec (st := st.skip (8 * n)) (c := st.codec) ⟨j, hcodec, le_refl _, id⟩

theorem eoiAct_leaves (hcodec : st.codec = .jpeg j) : st.Leaves (fun _ => j.Next) (eoiAct j st) := by
  unfold eoiAct
  split
  · exact .ends 0 _ .done .done (.inr ⟨j, hcodec, le_refl _, id⟩)
  · split_ifs
    · exact .stop .done
    · exact .fail rfl

theorem modeAct_leaves : st.Leaves (fun _ => j.Next) (modeAct j st) := by
  unfold modeAct
  split_ifs
  · exact .fail rfl
  · exact .fail rfl

theorem markerStep_leaves {eoi : Bool} {act : JpegState → StripState → StripState}
    (hact : st.Leaves (fun _ => j.Next) (act j st)) : st.Leaves (fun _ => j.Next) (markerStep eoi act j st) := by
  unfold markerStep
  split
  · exact .fail rfl
  · refine .fail ?_
    split_ifs <;> rfl
  · exact .fail rfl
  · exact hact
  · exact hact

theorem soiStep_leaves : st.Leaves (fun _ => j.Next) (soiStep j st) := by
  unfold soiStep
  split
  · exact .codec ⟨_, rfl, le_refl _, id⟩
  · exact markerStep_leaves (.fail rfl)

theorem rstStep_leaves (m : Nat) : st.Leaves (fun _ => j.Next) (rstStep m j st) := by
  unfold rstStep
  split
  · split_ifs
    · exact flushRow_leaves (Nat.zero_le _) rfl
    · exact .fail rfl
  · exact markerStep_leaves (.fail rfl)

theorem MarkerMeaning.leaves {i : Instr} {f : JpegState → StripState → StripState} (h : MarkerMeaning i f)
    (hcodec : st.codec = .jpeg j) : st.Leaves (fun _ => j.Next) (f j st) := by
  cases h with
  | soi => exact soiStep_leaves
  | eoi => exact markerStep_leaves (eoiAct_leaves hcodec)
  | dqt => exact markerStep_leaves (tablesAct_leaves dqt_wf dqt_errors)
  | dht => exact markerStep_leaves (tablesAct_leaves dht_wf dht_errors)
  | dri => exact markerStep_leaves (tablesAct_leaves dri_wf dri_errors)
  | sof0 => exact markerStep_leaves sofAct_leaves
  | sof1 => exact markerStep_leaves sofAct_leaves
  | sos => exact markerStep_leaves sosAct_leaves
  | com => exact markerStep_leaves (skipAct_leaves hcodec)
  | appn n => exact markerStep_leaves (skipAct_leaves hcodec)
  | mode i hi => exact markerStep_leaves modeAct_leaves
  | dnl => exact markerStep_leaves (.fail rfl)
  | tem => exact markerStep_leaves (.fail rfl)
  | res c => exact markerStep_leaves (.fail rfl)
  | rstm m => exact rstStep_leaves m.toNat

end JpegLeaves

end Sys2Proof.Machine

/-! What every step of a unit keeps (R13, R152, R191, R422, R430; log 2, log 21, log 22). -/

namespace Sys2Proof.Machine

open Sys2Proof Host

/-! ### A step runs the symbol at the cursor -/

theorem step_unit {s : State} (hfocus : s.focus = .unit) (hactive : s.stripActive = true)
    (hterm : s.strip.term = none) :
    step s = match fetch Config.params s.strip with
      | .quiet st => .next { s with strip := st }
      | .symbol i st => exec i { s with strip := st } := by
  have hnotEnded : ¬(!s.stripActive || s.strip.term.isSome) = true := by simp [hactive, hterm]
  unfold step
  rw [hfocus]
  refine (if_neg hnotEnded).trans ?_
  cases fetch Config.params s.strip <;> rfl

theorem step_unit_symbol {s : State} (hfocus : s.focus = .unit) (hactive : s.stripActive = true)
    (hterm : s.strip.term = none) {i : Instr} {st : StripState} (h : fetch Config.params s.strip = .symbol i st) :
    step s = exec i { s with strip := st } := by
  rw [step_unit hfocus hactive hterm, h]

theorem fetch_of_fetchBits {P : Params} {st : StripState} {f : Fmt} {lsb : Bool} {n : Nat} {bad : ErrKind}
    (hfetch : fetch P st = fetchBits f lsb n bad st) {i : Instr} {used : Nat}
    (hdec : decode f (peekBits lsb st.lin n st.bc) = .found i used) : fetch P st = .symbol i (st.skip used) := by
  rw [hfetch, fetchBits, hdec]

/-- Settles O21: the fetch of each of the units named. -/
theorem stepRunsTheSymbol : Obligations.StepRunsTheSymbol := by
  intro s hfocus hactive hterm
  have hstep {i : Instr} {st : StripState} (h : fetch Config.params s.strip = .symbol i st) :
      step s = exec i { s with strip := st } := step_unit_symbol hfocus hactive hterm h
  refine ⟨fun i st h => hstep h,
    fun z i n hcodec hbits hdec => hstep (fetch_of_fetchBits (bad := .lzwBadCode) ?lzw hdec),
    fun c rest hcodec halign hbytes => hstep (s.strip.fetch_packBits hcodec halign hbytes _),
    fun f i n hcodec hphase hdec => hstep (fetch_of_fetchBits (bad := .faxBadCode) ?fax hdec)⟩
  case lzw =>
    unfold fetch fetchLzw
    rw [hcodec]
    exact if_neg (Nat.not_lt.mpr hbits)
  case fax =>
    unfold fetch fetchFax
    rw [hcodec]
    simp only [hphase, FaxState.runColour]
    rfl

/-! ### What a step keeps and emits -/

/-- The strip's configuration and input are kept, what was emitted stands, and an error is one a stream can have. -/
structure StripState.Framed (st st' : StripState) : Prop where
  cfg : st'.cfg = st.cfg
  lin : st'.lin = st.lin
  emitted : st.emitted <+: st'.emitted
  term : ∀ k, st'.term = some (.error k) → k.inStream = true

/-- An action, taken on the strip with its cursor and codec state changed by the fetch. -/
theorem StripState.Leaves.framed {st st₀ st' : StripState} {Q : List Byte → CodecState → Prop}
    (h : st₀.Leaves Q st') (hcfg : st₀.cfg = st.cfg) (hlin : st₀.lin = st.lin)
    (hemitted : st₀.emitted = st.emitted) (hterm : st₀.term = none) : st.Framed st' := by
  obtain ⟨hcfg', hlin', ⟨b, hb⟩, _, ht⟩ := h.frame
  refine ⟨hcfg'.trans hcfg, hlin'.trans hlin, ⟨b, by rw [hb, hemitted]⟩, fun k hk => ?_⟩
  rcases ht with ht | ⟨t, ht, hin⟩
  · rw [ht, hterm] at hk
    cases hk
  · rw [ht] at hk
    cases hk
    cases hin
    assumption

theorem stuffStep_result {j : JpegState} (h : j.phase = .entropy) (ebuf : List Bool) (st : StripState) :
    stuffStep { j with ebuf } st = { st with codec := .jpeg { j with ebuf := ebuf ++ List.replicate 8 true } } :=
  stuffStep_entropy (j := { j with ebuf }) h st

theorem UnitResult.framed {st st' : StripState} (h : UnitResult st st') (hterm : st.term = none) :
    st.Framed st' := by
  cases h with
  | ends c t hc ht =>
    refine ⟨rfl, rfl, List.prefix_rfl, fun k hk => ?_⟩
    cases hk
    cases ht
    assumption
  | lzw z f hcodec hf hleft => exact (hf.leaves z _).framed rfl rfl rfl hterm
  | packBits f hcodec hf hleft => exact (hf.leaves (st.skip 8) hcodec).framed rfl rfl rfl hterm
  | faxRun x c f hcodec hhere hf hc => exact (hf.leaves x _).framed rfl rfl rfl hterm
  | faxMode x c f hcodec hhere hf hc => exact (hf.leaves x _).framed rfl rfl rfl hterm
  | faxEol x c hcodec hhere hc => exact (eolStep_leaves hhere _).framed rfl rfl rfl hterm
  | faxTag x c twoD hcodec hhere hc => exact (rowTestStep_leaves hhere twoD _).framed rfl rfl rfl hterm
  | rawRow v hcodec => exact (rawRowStep_leaves _ hcodec).framed rfl rfl rfl hterm
  | logLuv v f hcodec hf hleft => exact (hf.leaves v _).framed rfl rfl rfl hterm
  | marker j i f n hcodec hf hn => exact (hf.leaves (st := st.skip (8 * n)) hcodec).framed rfl rfl rfl hterm
  | stuff j ebuf k hcodec hphase hebuf hk =>
    rw [stuffStep_result hphase]
    refine ⟨rfl, rfl, List.prefix_rfl, fun k hk => ?_⟩
    exact absurd (hterm.symm.trans hk) nofun
  | entropy j ebuf k used f hcodec hphase hf hebuf hused hk => exact hf.leaves.framed rfl rfl rfl hterm
  | deflate hcodec => exact (zlibStep_leaves _ hcodec).framed rfl rfl rfl hterm

/-- A command word is no symbol of a stream. -/
theorem execSymbol_command {i : Instr} {w : Word} (h : encodeCmd i = some w) (s : State) :
    execSymbol i s = .refused .symbolOutOfPlace := by
  cases i <;> first | rfl | cases h

theorem encodeCmd_of_execSymbol_next {i : Instr} {s t : State} (h : execSymbol i s = .next t) :
    encodeCmd i = none := by
  cases hi : encodeCmd i with
  | none => rfl
  | some w => exact absurd ((execSymbol_command hi s).symm.trans h) nofun

/-- Settles O22: `unitStep_result` says that the step is taken, `UnitResult.framed` what it keeps. -/
theorem unitSteps : Obligations.UnitSteps := by
  intro s hterm
  obtain ⟨st, hstep, hresult⟩ := unitStep_result hterm
  obtain ⟨hcfg, hlin, hemitted, herr⟩ := hresult.framed hterm
  refine ⟨fun hfocus hactive => ?_, _, hstep, rfl, hcfg, hlin, hemitted, herr⟩
  rw [step_unit hfocus hactive hterm]
  rw [unitStep_eq_run] at hstep ⊢
  cases hfetch : fetch Config.params s.strip with
  | quiet st => rfl
  | symbol i st =>
    rw [hfetch] at hstep
    exact exec_eq_execSymbol (encodeCmd_of_execSymbol_next hstep) _

/-! ### Sound units (R152, R280, R430) -/

/-- Soundness depends on the codec state, the configuration and the place in the byte. -/
theorem StripState.Wf.congr {st st' : StripState} (h : st.Wf) (hcodec : st'.codec = st.codec)
    (hcfg : st'.cfg = st.cfg) (hbc : st'.bc % 8 = st.bc % 8) : st'.Wf := by
  unfold StripState.Wf at h ⊢
  rw [hcodec, hcfg, hbc]
  exact h

theorem StripState.wf_lzw {st : StripState} {z : LzwState} (h : st.codec = .lzw z) : st.Wf ↔ z.Wf := by
  unfold StripState.Wf
  rw [h]

theorem StripState.wf_logLuv {st : StripState} {v : LogLuvState} (h : st.codec = .logLuv v) :
    st.Wf ↔ 1 ≤ st.cfg.w := by
  unfold StripState.Wf
  rw [h]

theorem StripState.wf_jpeg {st : StripState} {j : JpegState} (h : st.codec = .jpeg j) : st.Wf ↔ st.bc % 8 = 0 := by
  unfold StripState.Wf
  rw [h]

theorem StripState.wf_fax {st : StripState} {f : FaxState} (h : st.codec = .fax f) : st.Wf := by
  unfold StripState.Wf
  rw [h]
  trivial

theorem StripState.wf_packBits {st : StripState} (h : st.codec = .packBits) : st.Wf := by
  unfold StripState.Wf
  rw [h]
  trivial

theorem StripState.wf_deflate {st : StripState} (h : st.codec = .deflate) : st.Wf := by
  unfold StripState.Wf
  rw [h]
  trivial

/-- The strip stays sound, and the step ends its stream or uses a bit that was left. -/
def StripState.Advances (st st' : StripState) : Prop :=
  st'.Wf ∧ (st'.term ≠ none ∨ st'.left < st.left)

/-- An action taken after bits have been used advances the strip where the codec states it can leave are sound and
buffer no more bits. -/
theorem StripState.Leaves.advances {st st₀ st' : StripState} {Q : List Byte → CodecState → Prop}
    (h : st₀.Leaves Q st') (hwf : st₀.Wf) (hleft : st₀.left < st.left)
    (hQ : ∀ b c, Q b c → c.buffered ≤ st₀.codec.buffered ∧
      ∀ st₁ : StripState, st₁.codec = c → st₁.cfg = st₀.cfg → st₁.bc % 8 = st₀.bc % 8 → st₁.Wf) :
    st.Advances st' := by
  have halign (n : Nat) : (st₀.bc + 8 * n) % 8 = st₀.bc % 8 := Nat.add_mul_mod_self_left _ _ _
  cases h with
  | ends n b t ht hb => exact ⟨hwf.congr rfl rfl (halign n), .inl nofun⟩
  | goesOn n b c hc =>
    obtain ⟨hbuffered, hsound⟩ := hQ b c hc
    refine ⟨hsound _ rfl rfl (halign n), .inr ?_⟩
    unfold StripState.left StripState.remaining at hleft ⊢
    dsimp only at hleft ⊢
    omega

theorem FaxState.Next.isFax {L : Latched} {f : FaxState} {b : List Byte} {c : CodecState} (h : f.Next L b c) :
    ∃ f', c = .fax f' := by
  obtain ⟨f', hc, _⟩ := h
  exact ⟨f', hc⟩

/-- A fax action advances the strip once the cursor has moved on inside the input. -/
theorem StripState.Leaves.fax_advances {st st' : StripState} {x : FaxState} {c : Nat} (hcodec : st.codec = .fax x)
    (hc : st.bc < c ∧ c ≤ 8 * st.lin.length) {Q : List Byte → CodecState → Prop}
    (h : ({ st with bc := c } : StripState).Leaves Q st') (hQ : ∀ b d, Q b d → ∃ f', d = .fax f') :
    st.Advances st' := by
  refine h.advances (StripState.wf_fax (f := x) hcodec) ?_ fun b d hd => ?_
  · unfold StripState.left StripState.remaining
    dsimp only
    omega
  · obtain ⟨f', rfl⟩ := hQ b d hd
    exact ⟨Nat.zero_le _, fun st₁ hst₁ _ _ => StripState.wf_fax hst₁⟩

theorem JpegState.Next.advances {st st₀ st' : StripState} {j : JpegState} (hcodec : st₀.codec = .jpeg j)
    (hwf : st₀.Wf) (hleft : st₀.left < st.left) (h : st₀.Leaves (fun _ => j.Next) st') : st.Advances st' := by
  refine h.advances hwf hleft fun b c hc => ?_
  obtain ⟨j', rfl, hebuf, _⟩ := hc
  rw [hcodec]
  refine ⟨hebuf, fun st₁ hst₁ _ hbc => (StripState.wf_jpeg hst₁).mpr ?_⟩
  rw [hbc]
  exact (StripState.wf_jpeg hcodec).mp hwf

theorem StripState.bytes_length (st : StripState) : st.bytes.length = st.lin.length - st.bc / 8 := by
  rw [StripState.bytes, List.length_drop]

theorem rawRowStep_advances {st : StripState} {v : LogLuvState} (hcodec : st.codec = .logLuv v) (hwf : st.Wf)
    (P : Params) : st.Advances (rawRowStep P st) := by
  have hw := (StripState.wf_logLuv hcodec).mp hwf
  unfold rawRowStep
  dsimp only
  split_ifs with hnil hshort
  · exact ⟨hwf.congr rfl rfl rfl, .inl nofun⟩
  · exact ⟨hwf.congr rfl rfl rfl, .inl nofun⟩
  · have hlen := st.bytes_length
    refine ⟨(StripState.wf_logLuv (st := (st.emit _).skip _) hcodec).mpr hw, .inr ?_⟩
    unfold StripState.left StripState.remaining
    simp only [StripState.skip_lin, StripState.skip_bc, StripState.skip_codec, StripState.emit_lin,
      StripState.emit_bc, StripState.emit_codec]
    omega

/-- Every step advances a sound strip. -/
theorem UnitResult.advances {st st' : StripState} (h : UnitResult st st') (hwf : st.Wf) : st.Advances st' := by
  cases h with
  | ends c t hc ht =>
    refine ⟨?_, .inl nofun⟩
    rcases hc with hc | ⟨x, hx⟩
    · exact hwf.congr rfl rfl hc
    · exact StripState.wf_fax (f := x) hx
  | lzw z f hcodec hf hleft =>
    have hz := (StripState.wf_lzw hcodec).mp hwf
    refine (hf.leaves z _).advances ((StripState.wf_lzw (st := st.skip _) hcodec).mpr hz) ?_ fun b c hc => ?_
    · have hwidth := hz.width.1
      unfold StripState.left
      unfold StripState.remaining at hleft ⊢
      simp only [StripState.skip_lin, StripState.skip_bc, StripState.skip_codec]
      omega
    · obtain ⟨z', rfl, hz'⟩ := hc
      exact ⟨Nat.zero_le _, fun st₁ hst₁ _ _ => (StripState.wf_lzw hst₁).mpr (hz' hz)⟩
  | packBits f hcodec hf hleft =>
    refine (hf.leaves (st.skip 8) hcodec).advances (StripState.wf_packBits hcodec) ?_ fun b c hc => ?_
    · unfold StripState.left
      unfold StripState.remaining at hleft ⊢
      simp only [StripState.skip_lin, StripState.skip_bc, StripState.skip_codec]
      omega
    · subst hc
      exact ⟨Nat.zero_le _, fun st₁ hst₁ _ _ => StripState.wf_packBits hst₁⟩
  | faxRun x c f hcodec hhere hf hc =>
    exact (hf.leaves x { st with bc := c }).fax_advances hcodec hc fun _ _ => FaxState.Next.isFax
  | faxMode x c f hcodec hhere hf hc =>
    exact (hf.leaves x { st with bc := c }).fax_advances hcodec hc fun _ _ => FaxState.Next.isFax
  | faxEol x c hcodec hhere hc =>
    exact (eolStep_leaves hhere { st with bc := c }).fax_advances hcodec hc fun _ _ => FaxState.Next.isFax
  | faxTag x c twoD hcodec hhere hc =>
    exact (rowTestStep_leaves hhere twoD { st with bc := c }).fax_advances hcodec hc fun _ _ => FaxState.Next.isFax
  | rawRow v hcodec => exact rawRowStep_advances hcodec hwf _
  | logLuv v f hcodec hf hleft =>
    have hw := (StripState.wf_logLuv hcodec).mp hwf
    have hwf' : (st.skip 8).Wf := (StripState.wf_logLuv (st := st.skip _) hcodec).mpr hw
    refine (hf.leaves v (st.skip 8)).advances hwf' ?_ fun b c hc => ?_
    · unfold StripState.left
      unfold StripState.remaining at hleft ⊢
      simp only [StripState.skip_lin, StripState.skip_bc, StripState.skip_codec]
      omega
    · obtain ⟨v', rfl⟩ := hc
      exact ⟨Nat.zero_le _, fun st₁ hst₁ hcfg _ => (StripState.wf_logLuv hst₁).mpr (hcfg ▸ hw)⟩
  | marker j i f n hcodec hf hn =>
    have hbc := (StripState.wf_jpeg hcodec).mp hwf
    have hlen := st.bytes_length
    refine JpegState.Next.advances (st₀ := st.skip (8 * n)) hcodec
      (hwf.congr rfl rfl (Nat.add_mul_mod_self_left _ _ _)) ?_ (hf.leaves hcodec)
    unfold StripState.left StripState.remaining
    simp only [StripState.skip_lin, StripState.skip_bc, StripState.skip_codec]
    omega
  | stuff j ebuf k hcodec hphase hebuf hk =>
    have hbc := (StripState.wf_jpeg hcodec).mp hwf
    have hlen := st.bytes_length
    rw [stuffStep_result hphase]
    refine ⟨(StripState.wf_jpeg rfl).mpr ((Nat.add_mul_mod_self_left _ _ _).trans hbc), .inr ?_⟩
    unfold StripState.left StripState.remaining
    simp only [hcodec, CodecState.buffered, List.length_append, List.length_replicate]
    omega
  | entropy j ebuf k used f hcodec hphase hf hebuf hused hk =>
    have hbc := (StripState.wf_jpeg hcodec).mp hwf
    have hlen := st.bytes_length
    refine JpegState.Next.advances rfl
      ((StripState.wf_jpeg rfl).mpr ((Nat.add_mul_mod_self_left _ _ _).trans hbc)) ?_ hf.leaves
    unfold StripState.left StripState.remaining
    simp only [hcodec, CodecState.buffered]
    omega
  | deflate hcodec =>
    rw [zlibStep_eq]
    exact ⟨StripState.wf_deflate hcodec, .inl nofun⟩

/-- STRIP_BEGIN's checks let no LogLuv strip of width 0 pass (R280). -/
theorem logLuvChecks_width {P : Params} {L : Latched} (h : firstFailure (logLuvChecks P L) = none) : 1 ≤ L.w := by
  have hwidth := firstFailure_eq_none.mp h _ (List.mem_cons_self)
  exact (of_decide_eq_true hwidth).1

theorem firstFailure_append {l l' : List (Bool × ErrKind)} (h : firstFailure (l ++ l') = none) :
    firstFailure l' = none := by
  rw [firstFailure_eq_none] at h ⊢
  exact fun p hp => h p (List.mem_append_right l hp)

theorem StripState.init_wf {P : Params} {L : Latched} (lin : List Byte) (T : JpegTables)
    (h : firstFailure (stripChecks P L) = none) : (StripState.init L lin T).Wf := by
  have hunit := firstFailure_append h
  unfold StripState.Wf StripState.init CodecState.init
  unfold unitChecks at hunit
  cases hkind : L.unit? with
  | none => trivial
  | some u =>
    rw [hkind] at hunit
    cases u with
    | lzw => exact LzwState.init_wf lin
    | jpeg => exact Nat.zero_mod 8
    | logL16 => exact logLuvChecks_width hunit
    | logLuv32 => exact logLuvChecks_width hunit
    | logLuv24 => exact logLuvChecks_width hunit
    | _ => trivial

/-- Settles O26: the checks make the first state sound, and `UnitResult.advances` every step. -/
theorem unitStepsEndOrConsume : Obligations.UnitStepsEndOrConsume :=
  ⟨fun _ _ lin T h => StripState.init_wf lin T h,
    fun _ _ hwf hterm hstep => (UnitResult.of_unitStep hterm hstep).advances hwf⟩

/-! ### Fax rows (R191, R192, R221) -/

/-- Where the codec state left is that of a fax unit, the output is still whole rows. -/
theorem FaxState.Next.faxWf {st st' : StripState} {x y : FaxState} {c : Nat} (hst : st.FaxWf)
    (hcodec : st.codec = .fax x) (h : ({ st with bc := c } : StripState).Leaves (y.Next st.cfg) st')
    (hrows : y.rows = x.rows) (hy : x.Wf st.cfg → y.Wf st.cfg) : st'.FaxWf := by
  intro f hf
  obtain ⟨hwf, hemitted⟩ := hst x hcodec
  obtain ⟨hcfg, _⟩ := h.frame
  rw [hcfg]
  rcases h.codec_cases with ⟨hkept, hsame⟩ | ⟨b, hb, f', hf', hnext⟩
  · rw [hkept] at hf
    obtain rfl : x = f := CodecState.fax.inj (hcodec.symm.trans hf)
    rw [hsame]
    exact ⟨hwf, hemitted⟩
  · obtain rfl : f = f' := CodecState.fax.inj (hf.symm.trans hf')
    obtain ⟨hwf', hlen⟩ := hnext (hy hwf)
    refine ⟨hwf', ?_⟩
    rw [hb, List.length_append, hemitted, ← hlen, hrows, Nat.add_comm]

/-- A codec state of another unit. -/
theorem StripState.Leaves.not_fax {st₀ st' : StripState} {Q : List Byte → CodecState → Prop}
    (h : st₀.Leaves Q st') (hcodec : ∀ f, st₀.codec ≠ .fax f) (hQ : ∀ b c, Q b c → ∀ f, c ≠ .fax f) : st'.FaxWf := by
  intro f hf
  rcases h.codec_cases with ⟨hkept, _⟩ | ⟨b, _, hb⟩
  · exact absurd (hkept.symm.trans hf) (hcodec f)
  · exact absurd hf (hQ b _ hb f)

theorem UnitResult.faxWf {st st' : StripState} (h : UnitResult st st') (hst : st.FaxWf) : st'.FaxWf := by
  have hjpeg (j : JpegState) : ∀ (_ : List Byte) c, j.Next c → ∀ f, c ≠ .fax f := by
    rintro _ _ ⟨j', rfl, _⟩ f
    exact nofun
  have hlogLuv : ∀ (_ : List Byte) (c : CodecState), c.IsLogLuv → ∀ f, c ≠ .fax f := by
    rintro _ _ ⟨v, rfl⟩ f
    exact nofun
  cases h with
  | ends c t hc ht => exact hst
  | lzw z f hcodec hf hleft =>
    refine (hf.leaves z _).not_fax (by simp [hcodec]) ?_
    rintro _ _ ⟨z', rfl, _⟩ f
    exact nofun
  | packBits f hcodec hf hleft =>
    exact (hf.leaves (st.skip 8) hcodec).not_fax (by simp [hcodec]) (by rintro _ _ rfl f; exact nofun)
  | faxRun x c f hcodec hhere hf hc => exact FaxState.Next.faxWf hst hcodec (hf.leaves x { st with bc := c }) rfl id
  | faxMode x c f hcodec hhere hf hc => exact FaxState.Next.faxWf hst hcodec (hf.leaves x { st with bc := c }) rfl id
  | faxEol x c hcodec hhere hc => exact FaxState.Next.faxWf hst hcodec (eolStep_leaves hhere { st with bc := c }) rfl id
  | faxTag x c twoD hcodec hhere hc =>
    exact FaxState.Next.faxWf hst hcodec (rowTestStep_leaves hhere twoD { st with bc := c }) rfl id
  | rawRow v hcodec => exact (rawRowStep_leaves _ hcodec).not_fax (by simp [hcodec]) hlogLuv
  | logLuv v f hcodec hf hleft => exact (hf.leaves v _).not_fax (by simp [hcodec]) hlogLuv
  | marker j i f n hcodec hf hn =>
    exact (hf.leaves (st := st.skip (8 * n)) hcodec).not_fax (by simp [hcodec]) (hjpeg j)
  | stuff j ebuf k hcodec hphase hebuf hk =>
    rw [stuffStep_result hphase]
    exact nofun
  | entropy j ebuf k used f hcodec hphase hf hebuf hused hk => exact hf.leaves.not_fax nofun (hjpeg _)
  | deflate hcodec =>
    exact (zlibStep_leaves _ hcodec).not_fax (by simp [hcodec]) (by rintro _ _ rfl f; exact nofun)

/-- Settles O41: `UnitResult.faxWf` over the results of a step; the state at a strip's start is sound. -/
theorem faxRowsKept : Obligations.FaxRowsKept := by
  refine ⟨fun L f hw hf => ?_, fun s t hterm hwf hstep => (UnitResult.of_unitStep hterm hstep).faxWf hwf⟩
  rw [hf]
  exact FaxState.init_wf hw

/-! ### JPEG tables -/

/-- A JPEG strip's own tables are whole. -/
def StripState.TablesWf (st : StripState) : Prop :=
  ∀ j, st.codec = .jpeg j → j.tables.Wf

theorem StripState.Leaves.tablesWf {st₀ st' : StripState} {Q : List Byte → CodecState → Prop}
    (h : st₀.Leaves Q st') (hst : st₀.TablesWf) (hQ : ∀ b c, Q b c → ∀ j, c = .jpeg j → j.tables.Wf) :
    st'.TablesWf := by
  intro j hj
  rcases h.codec_cases with ⟨hkept, _⟩ | ⟨b, _, hb⟩
  · exact hst j (hkept.symm.trans hj)
  · exact hQ b _ hb j hj

theorem JpegState.Next.tablesWf {j : JpegState} (h : j.tables.Wf) (_ : List Byte) (c : CodecState) (hc : j.Next c)
    (j' : JpegState) (hj' : c = .jpeg j') : j'.tables.Wf := by
  obtain ⟨j'', hj'', _, hwf⟩ := hc
  obtain rfl : j'' = j' := CodecState.jpeg.inj (hj''.symm.trans hj')
  exact hwf h

theorem UnitResult.tablesWf {st st' : StripState} (h : UnitResult st st') (hst : st.TablesWf) : st'.TablesWf := by
  have hfax {L : Latched} {x : FaxState} : ∀ b c, x.Next L b c → ∀ j, c = .jpeg j → j.tables.Wf := by
    rintro _ _ ⟨f', rfl, _⟩ j hj
    cases hj
  have hlogLuv : ∀ (_ : List Byte) (c : CodecState), c.IsLogLuv → ∀ j, c = .jpeg j → j.tables.Wf := by
    rintro _ _ ⟨v, rfl⟩ j hj
    cases hj
  cases h with
  | ends c t hc ht => exact hst
  | lzw z f hcodec hf hleft =>
    refine (hf.leaves z _).tablesWf hst ?_
    rintro _ _ ⟨z', rfl, _⟩ j hj
    cases hj
  | packBits f hcodec hf hleft =>
    exact (hf.leaves (st.skip 8) hcodec).tablesWf hst (by rintro _ _ rfl j hj; cases hj)
  | faxRun x c f hcodec hhere hf hc => exact (hf.leaves x _).tablesWf hst hfax
  | faxMode x c f hcodec hhere hf hc => exact (hf.leaves x _).tablesWf hst hfax
  | faxEol x c hcodec hhere hc => exact (eolStep_leaves hhere _).tablesWf hst hfax
  | faxTag x c twoD hcodec hhere hc => exact (rowTestStep_leaves hhere twoD _).tablesWf hst hfax
  | rawRow v hcodec => exact (rawRowStep_leaves _ hcodec).tablesWf hst hlogLuv
  | logLuv v f hcodec hf hleft => exact (hf.leaves v _).tablesWf hst hlogLuv
  | marker j i f n hcodec hf hn =>
    exact (hf.leaves (st := st.skip (8 * n)) hcodec).tablesWf hst (JpegState.Next.tablesWf (hst j hcodec))
  | stuff j ebuf k hcodec hphase hebuf hk =>
    rw [stuffStep_result hphase]
    rintro _ ⟨⟩
    exact hst j hcodec
  | entropy j ebuf k used f hcodec hphase hf hebuf hused hk =>
    have hj : ({ j with ebuf } : JpegState).tables.Wf := hst j hcodec
    refine hf.leaves.tablesWf ?_ (JpegState.Next.tablesWf hj)
    rintro _ ⟨⟩
    exact hj
  | deflate hcodec =>
    exact (zlibStep_leaves _ hcodec).tablesWf hst (by rintro _ _ rfl j hj; cases hj)

end Sys2Proof.Machine

/-! The decoded stream of a strip, and the command that delivers it (R42, R104, R110, R111, R452). -/

namespace Sys2Proof.Machine

open Sys2Proof Host

/-! ### A step of the unit looks at the strip alone -/

theorem State.onDeflate_eq {s : State} (hterm : s.strip.term = none) (hcodec : s.strip.codec = .deflate)
    (f : StripState → StripState) : onDeflate s f = .next { s with strip := f s.strip } := by
  unfold onDeflate
  rw [hterm, hcodec]

/-- A symbol does to a strip what it does to that strip in any other state of the block. -/
theorem execSymbol_withStrip {i : Instr} {s t : State} (u : State) (h : execSymbol i s = .next t) :
    execSymbol i (u.withStrip s.strip) = .next (u.withStrip t.strip) := by
  cases i <;>
    first
    | cases h
    | (obtain ⟨_, hterm, hcodec, rfl⟩ := onLzw_next h
       exact State.atLzw.onLzw_eq (s := u.withStrip s.strip) ⟨hterm, hcodec⟩ _)
    | (obtain ⟨hterm, hcodec, rfl⟩ := onPackBits_next h
       exact State.atPackBits.onPackBits_eq (s := u.withStrip s.strip) ⟨hterm, hcodec⟩ _)
    | (obtain ⟨_, hterm, hcodec, hhere, rfl⟩ := onFax_next h
       exact State.atFax.onFax_eq (s := u.withStrip s.strip) ⟨hterm, hcodec⟩ hhere _)
    | (obtain ⟨_, hterm, hcodec, rfl⟩ := onLogLuv_next h
       exact State.atLogLuv.onLogLuv_eq (s := u.withStrip s.strip) ⟨hterm, hcodec⟩ _)
    | (obtain ⟨_, hterm, hcodec, hhere, rfl⟩ := onJpeg_next h
       exact State.atJpeg.onJpeg_eq (s := u.withStrip s.strip) ⟨hterm, hcodec⟩ hhere _)
    | (obtain ⟨hterm, hcodec, rfl⟩ := onDeflate_next h
       exact State.onDeflate_eq (s := u.withStrip s.strip) hterm hcodec _)

theorem unitStep_withStrip {s t : State} (u : State) (h : unitStep s = .next t) :
    unitStep (u.withStrip s.strip) = .next (u.withStrip t.strip) := by
  rw [unitStep_eq_run] at h ⊢
  show (fetch Config.params s.strip).run _ = _
  cases hfetch : fetch Config.params s.strip with
  | quiet st =>
    rw [hfetch] at h
    cases h
    rfl
  | symbol i st =>
    rw [hfetch] at h
    exact execSymbol_withStrip u h

theorem advance_of_term {s : State} (h : s.strip.term ≠ none) : advance s = s := by
  unfold advance
  split
  · rfl
  · contradiction

theorem advance_of_unitStep {s t : State} (hterm : s.strip.term = none) (h : unitStep s = .next t) :
    advance s = t := by
  unfold advance
  rw [hterm]
  dsimp only
  rw [h]

/-- What a step of the unit makes of a strip; of one whose stream has ended, nothing. -/
def StripState.next (st : StripState) : StripState :=
  (advance (State.reset.withStrip st)).strip

/-- The unit's step on a state is its step on the strip. -/
theorem advance_eq_next (s : State) : advance s = s.withStrip s.strip.next := by
  unfold StripState.next
  by_cases hterm : s.strip.term = none
  · obtain ⟨st, hstep, _⟩ := unitStep_result hterm
    rw [advance_of_unitStep hterm hstep,
      advance_of_unitStep (s := State.reset.withStrip s.strip) hterm (unitStep_withStrip State.reset hstep)]
    rfl
  · rw [advance_of_term hterm, advance_of_term (s := State.reset.withStrip s.strip) hterm]
    rfl

theorem StripState.next_of_term {st : StripState} (h : st.term ≠ none) : st.next = st := by
  unfold StripState.next
  rw [advance_of_term (s := State.reset.withStrip st) h]
  rfl

theorem StripState.next_result {st : StripState} (h : st.term = none) : UnitResult st st.next := by
  obtain ⟨st', hstep, hresult⟩ := unitStep_result (s := State.reset.withStrip st) h
  unfold StripState.next
  rw [advance_of_unitStep (s := State.reset.withStrip st) h hstep]
  exact hresult

/-! ### What stays true of a strip while its stream is read -/

/-- What every step of every unit keeps holds after any number of them. -/
theorem StripState.iterate_keeps {p : StripState → Prop}
    (hstep : ∀ {st st' : StripState}, st.term = none → UnitResult st st' → p st → p st') (n : Nat) {st : StripState}
    (h : p st) : p (StripState.next^[n] st) := by
  refine Function.Iterate.rec p h (fun st hst => ?_) n
  by_cases hterm : st.term = none
  · exact hstep hterm (StripState.next_result hterm) hst
  · rwa [StripState.next_of_term hterm]

theorem StripState.iterate_wf (n : Nat) {st : StripState} (h : st.Wf) : (StripState.next^[n] st).Wf :=
  StripState.iterate_keeps (p := StripState.Wf) (fun _ hresult hwf => (hresult.advances hwf).1) n h

theorem StripState.iterate_tablesWf (n : Nat) {st : StripState} (h : st.TablesWf) :
    (StripState.next^[n] st).TablesWf :=
  StripState.iterate_keeps (p := StripState.TablesWf) (fun _ hresult hwf => hresult.tablesWf hwf) n h

theorem StripState.iterate_cfg (n : Nat) (st : StripState) : (StripState.next^[n] st).cfg = st.cfg :=
  StripState.iterate_keeps (p := fun st' => st'.cfg = st.cfg)
    (fun hterm hresult h => (hresult.framed hterm).cfg.trans h) n rfl

theorem StripState.iterate_lin (n : Nat) (st : StripState) : (StripState.next^[n] st).lin = st.lin :=
  StripState.iterate_keeps (p := fun st' => st'.lin = st.lin)
    (fun hterm hresult h => (hresult.framed hterm).lin.trans h) n rfl

/-- A stream that has ended with an error has ended with one a stream can have (R422). -/
def StripState.EndsInStream (st : StripState) : Prop :=
  ∀ k, st.term = some (.error k) → k.inStream = true

theorem StripState.iterate_endsInStream (n : Nat) {st : StripState} (h : st.term = none) :
    (StripState.next^[n] st).EndsInStream :=
  StripState.iterate_keeps (p := StripState.EndsInStream) (fun hterm hresult _ => (hresult.framed hterm).term) n
    fun _ hk => absurd (h.symm.trans hk) nofun

/-! ### The end of the stream -/

theorem StripState.iterate_of_term (n : Nat) {st : StripState} (h : st.term ≠ none) : StripState.next^[n] st = st :=
  Function.iterate_fixed (StripState.next_of_term h) n

/-- A sound strip's stream ends after no more steps than there are bits left (R430). -/
theorem StripState.iterate_ends (n : Nat) : ∀ st : StripState, st.Wf → st.left < n →
    (StripState.next^[n] st).term ≠ none := by
  induction n with
  | zero => exact fun _ _ h => absurd h (Nat.not_lt_zero _)
  | succ n ih =>
    intro st hwf hleft
    by_cases hterm : st.term = none
    · obtain ⟨hwf', hended | hless⟩ := (StripState.next_result hterm).advances hwf
      · rwa [Function.iterate_succ_apply, StripState.iterate_of_term n hended]
      · exact ih _ hwf' (by omega)
    · rwa [StripState.iterate_of_term _ hterm]

/-- Two numbers of steps that both end the stream lead to the same strip. -/
theorem StripState.iterate_eq_of_ended {st : StripState} {m n : Nat} (hm : (StripState.next^[m] st).term ≠ none)
    (hn : (StripState.next^[n] st).term ≠ none) : StripState.next^[m] st = StripState.next^[n] st := by
  rw [← StripState.iterate_of_term n hm, ← StripState.iterate_of_term m hn, ← Function.iterate_add_apply,
    ← Function.iterate_add_apply, Nat.add_comm]

/-- The strip with its stream read to the end. -/
def StripState.finished (st : StripState) : StripState :=
  StripState.next^[st.fuel] st

theorem StripState.finished_ended {st : StripState} (h : st.Wf) : st.finished.term ≠ none :=
  StripState.iterate_ends _ st h (Nat.lt_succ_self _)

/-- However far the unit has gone, the stream ends the same. -/
theorem StripState.finished_iterate (n : Nat) {st : StripState} (h : st.Wf) :
    (StripState.next^[n] st).finished = st.finished := by
  have hend := StripState.finished_ended (StripState.iterate_wf n h)
  unfold StripState.finished at hend ⊢
  rw [← Function.iterate_add_apply] at hend ⊢
  exact StripState.iterate_eq_of_ended hend (StripState.finished_ended h)

/-! ### The state's stream is the strip's -/

theorem drain_eq_iterate (n : Nat) : ∀ s : State, drain n s = s.withStrip (StripState.next^[n] s.strip) := by
  induction n with
  | zero => exact fun s => rfl
  | succ n ih =>
    intro s
    unfold drain
    split
    case h_1 t hterm =>
      rw [StripState.iterate_of_term _ (by rw [hterm]; exact nofun)]
      rfl
    case h_2 hterm =>
      rw [ih, advance_eq_next]
      rfl

theorem State.finished_eq (s : State) : s.finished = s.strip.finished := by
  unfold State.finished
  rw [drain_eq_iterate]
  rfl

theorem State.streamBytes_congr {s t : State} (h : s.strip.finished = t.strip.finished) :
    s.streamBytes = t.streamBytes := by
  unfold State.streamBytes
  rw [State.finished_eq, State.finished_eq, h]

theorem State.streamEnd_congr {s t : State} (h : s.strip.finished = t.strip.finished) :
    s.streamEnd = t.streamEnd := by
  unfold State.streamEnd
  rw [State.finished_eq, State.finished_eq, h]

/-- Settles O27: the stream is read off `StripState.finished`. -/
theorem streamDependsOnTheStripOnly : Obligations.StreamDependsOnTheStripOnly :=
  fun _ _ h => ⟨State.streamBytes_congr (by rw [h]), State.streamEnd_congr (by rw [h])⟩

/-- The error that a DECODE beyond the stream raises is one a stream can have. -/
theorem State.failure_inStream {s : State} (h : s.strip.term = none) : s.streamEnd.failure.inStream = true := by
  have hend : s.finished.EndsInStream := by
    rw [State.finished_eq]
    exact StripState.iterate_endsInStream _ h
  unfold State.streamEnd
  cases hterm : s.finished.term with
  | none => rfl
  | some e =>
    cases e with
    | done => rfl
    | error k => exact hend k hterm

/-! ### The unit run as far as asked -/

/-- `drainUntil` takes some number of steps, after which the bytes are there, the stream has ended, or the steps are
used up. -/
theorem drainUntil_spec (need n : Nat) : ∀ s : State, ∃ m,
    drainUntil need n s = s.withStrip (StripState.next^[m] s.strip) ∧
      (need ≤ (StripState.next^[m] s.strip).output.length ∨ (StripState.next^[m] s.strip).term ≠ none ∨ m = n) := by
  induction n with
  | zero => exact fun s => ⟨0, rfl, .inr (.inr rfl)⟩
  | succ n ih =>
    intro s
    unfold drainUntil
    split
    case h_1 t hterm => exact ⟨0, rfl, .inr (.inl (by rw [Function.iterate_zero_apply, hterm]; exact nofun))⟩
    case h_2 hterm =>
      split
      · exact ⟨0, rfl, .inl ‹_›⟩
      · obtain ⟨m, heq, hm⟩ := ih (advance s)
        rw [advance_eq_next] at heq hm ⊢
        exact ⟨m + 1, heq, hm.imp_right (Or.imp_right (congrArg (· + 1)))⟩

/-- The strip that a DECODE of bytes up to `need` leaves. -/
def State.stripUntil (s : State) (need : Nat) : StripState :=
  (drainUntil need s.strip.fuel s).strip

theorem State.stripUntil_iterate (s : State) (need : Nat) :
    ∃ m, s.stripUntil need = StripState.next^[m] s.strip := by
  obtain ⟨m, heq, _⟩ := drainUntil_spec need s.strip.fuel s
  exact ⟨m, congrArg State.strip heq⟩

theorem State.stripUntil_cfg (s : State) (need : Nat) : (s.stripUntil need).cfg = s.strip.cfg := by
  obtain ⟨m, heq⟩ := s.stripUntil_iterate need
  rw [heq, StripState.iterate_cfg]

theorem State.stripUntil_lin (s : State) (need : Nat) : (s.stripUntil need).lin = s.strip.lin := by
  obtain ⟨m, heq⟩ := s.stripUntil_iterate need
  rw [heq, StripState.iterate_lin]

theorem State.stripUntil_wf {s : State} (need : Nat) (h : s.strip.Wf) : (s.stripUntil need).Wf := by
  obtain ⟨m, heq⟩ := s.stripUntil_iterate need
  rw [heq]
  exact StripState.iterate_wf m h

theorem State.stripUntil_tablesWf {s : State} (need : Nat) (h : s.strip.TablesWf) : (s.stripUntil need).TablesWf := by
  obtain ⟨m, heq⟩ := s.stripUntil_iterate need
  rw [heq]
  exact StripState.iterate_tablesWf m h

theorem State.stripUntil_finished {s : State} (need : Nat) (h : s.strip.Wf) :
    (s.stripUntil need).finished = s.strip.finished := by
  obtain ⟨m, heq⟩ := s.stripUntil_iterate need
  rw [heq, StripState.finished_iterate m h]

/-- A sound strip's unit has emitted the bytes asked for, where the stream holds them. -/
theorem State.stripUntil_output {s : State} {need : Nat} (h : s.strip.Wf) (hneed : need ≤ s.streamBytes.length) :
    need ≤ (s.stripUntil need).output.length := by
  obtain ⟨m, heq, hm⟩ := drainUntil_spec need s.strip.fuel s
  have hstrip : s.stripUntil need = StripState.next^[m] s.strip := congrArg State.strip heq
  rw [hstrip]
  have hended (hterm : (StripState.next^[m] s.strip).term ≠ none) :
      need ≤ (StripState.next^[m] s.strip).output.length := by
    rw [StripState.iterate_eq_of_ended hterm (StripState.finished_ended h)]
    unfold State.streamBytes at hneed
    rwa [State.finished_eq] at hneed
  rcases hm with hout | hterm | rfl
  · exact hout
  · exact hended hterm
  · exact hended (StripState.finished_ended h)

end Sys2Proof.Machine

/-! DECODE (R104, R110, R111, R423, R424). -/

namespace Sys2Proof.Machine

open Sys2Proof Host

/-! ### Results and errors -/

/-- Whatever raises an error leaves one latched. -/
@[simp] theorem State.raise_err (s : State) (k : ErrKind) (r t : Word) : (s.raise k r t).err = true := by
  unfold State.raise State.err
  split
  · rename_i h
    rw [h]
    rfl
  · rfl

theorem State.raise_of_not_err {s : State} (h : s.err = false) (k : ErrKind) (r t : Word) :
    s.raise k r t =
      { s with latch := some { kind := k, row := r, strip := t }, stripActive := false, outValid := false } :=
  State.raise_of_none (State.latch_eq_none_of_err_eq_false h) k r t

/-- A delivered result is in OUT from its first byte on, and the bytes after it are kept (R64). -/
theorem State.readOut_deliver (s : State) (b : List Byte) (i : Nat) :
    (s.deliver b).readOut i = b[i]?.getD (s.readOut i) := by
  unfold State.readOut
  rw [State.deliver_outMem, State.deliver_epoch, memGet_memWrite]
  by_cases h : i < b.length
  · rw [if_pos ⟨Nat.zero_le _, by rwa [Nat.zero_add]⟩, Nat.sub_zero, List.getElem?_eq_getElem h]
    rfl
  · rw [if_neg (by omega), List.getElem?_eq_none (Nat.not_lt.mp h)]
    rfl

theorem State.readOut_deliver_lt (s : State) {b : List Byte} {i : Nat} (h : i < b.length) :
    b[i]? = some ((s.deliver b).readOut i) := by
  rw [State.readOut_deliver, List.getElem?_eq_getElem h]
  rfl

theorem State.readOut_deliver_ge (s : State) {b : List Byte} {i : Nat} (h : b.length ≤ i) :
    (s.deliver b).readOut i = s.readOut i := by
  rw [State.readOut_deliver, List.getElem?_eq_none h]
  rfl

/-- A failed command may change OUT[0..n) only. -/
theorem State.readOut_spoilOut (s : State) {n i : Nat} (h : n ≤ i) : (s.spoilOut n).readOut i = s.readOut i := by
  unfold State.readOut
  rw [State.spoilOut_outMem, State.spoilOut_epoch, memGet_memWrite, List.length_map, List.length_range,
    if_neg (by omega)]

theorem State.raise_readOut (s : State) (k : ErrKind) (r t : Word) (i : Nat) :
    (s.raise k r t).readOut i = s.readOut i := by
  unfold State.readOut
  rw [State.raise_outMem, State.raise_epoch]

/-! ### What DECODE does -/

theorem execDecode_of_not_err {s : State} (h : s.err = false) :
    exec .decode s = .next (s.decodeRows Config.params) :=
  congrArg Outcome.next (State.unlessLatched_of_not_err h _)

/-- A DECODE's request is inside OUT and inside the strip's positions (R104). -/
structure State.DecodeFits (P : Params) (s : State) : Prop where
  active : s.stripActive = true
  out : s.occ ≤ P.maxOutBytes
  pos : s.pos.toNat + s.occ ≤ 2 ^ 32 - 1

/-- The bytes a DECODE delivers. -/
def State.requested (s : State) : List Byte :=
  (s.streamBytes.drop s.pos.toNat).take s.occ

theorem State.requested_length {s : State} (h : s.pos.toNat + s.occ ≤ s.streamBytes.length) :
    s.requested.length = s.occ := by
  unfold State.requested
  rw [List.length_take, List.length_drop]
  omega

theorem State.getElem?_requested {s : State} {i : Nat} (h : i < s.occ) :
    s.requested[i]? = s.streamBytes[s.pos.toNat + i]? := by
  unfold State.requested
  rw [List.getElem?_take_of_lt h, List.getElem?_drop]

theorem State.decodeRows_noStrip {P : Params} {s : State} (h : s.stripActive = false) :
    s.decodeRows P = s.raiseDecode .noStrip := by
  unfold State.decodeRows
  simp [h]

theorem State.decodeRows_rowsRange {P : Params} {s : State} (hactive : s.stripActive = true)
    (h : P.maxOutBytes < s.occ ∨ 2 ^ 32 - 1 < s.pos.toNat + s.occ) : s.decodeRows P = s.raiseDecode .rowsRange := by
  unfold State.decodeRows
  simp only [hactive, Bool.not_true, Bool.false_eq_true, if_false, if_pos h]

theorem State.decodeRows_of_fits {P : Params} {s : State} (h : s.DecodeFits P) :
    s.decodeRows P =
      if s.pos.toNat + s.occ ≤ s.streamBytes.length then
        { s.deliver s.requested with
          pos := s.pos + BitVec.ofNat 32 s.occ
          strip := s.stripUntil (s.pos.toNat + s.occ) }
      else (s.spoilOut s.occ).raiseStream s.streamEnd.failure s.streamBytes.length := by
  obtain ⟨hactive, hout, hpos⟩ := h
  unfold State.decodeRows
  simp only [hactive, Bool.not_true, Bool.false_eq_true, if_false]
  exact if_neg (by omega)

theorem State.decodeRows_delivers {P : Params} {s : State} (h : s.DecodeFits P)
    (hlen : s.pos.toNat + s.occ ≤ s.streamBytes.length) :
    s.decodeRows P =
      { s.deliver s.requested with
        pos := s.pos + BitVec.ofNat 32 s.occ
        strip := s.stripUntil (s.pos.toNat + s.occ) } := by
  rw [State.decodeRows_of_fits h, if_pos hlen]

theorem State.decodeRows_stream {P : Params} {s : State} (h : s.DecodeFits P)
    (hlen : s.streamBytes.length < s.pos.toNat + s.occ) :
    s.decodeRows P = (s.spoilOut s.occ).raiseStream s.streamEnd.failure s.streamBytes.length := by
  rw [State.decodeRows_of_fits h, if_neg (Nat.not_le.mpr hlen)]

/-- Everything a DECODE can do. -/
theorem State.decodeRows_cases (P : Params) (s : State) :
    (s.stripActive = false ∧ s.decodeRows P = s.raiseDecode .noStrip) ∨
    (s.stripActive = true ∧ s.decodeRows P = s.raiseDecode .rowsRange) ∨
    (s.DecodeFits P ∧
      s.decodeRows P = (s.spoilOut s.occ).raiseStream s.streamEnd.failure s.streamBytes.length) ∨
    (s.DecodeFits P ∧ s.pos.toNat + s.occ ≤ s.streamBytes.length) := by
  cases hactive : s.stripActive with
  | false => exact .inl ⟨rfl, State.decodeRows_noStrip hactive⟩
  | true =>
    by_cases hrange : P.maxOutBytes < s.occ ∨ 2 ^ 32 - 1 < s.pos.toNat + s.occ
    · exact .inr (.inl ⟨rfl, State.decodeRows_rowsRange hactive hrange⟩)
    · have hfits : s.DecodeFits P := ⟨hactive, by omega, by omega⟩
      by_cases hlen : s.pos.toNat + s.occ ≤ s.streamBytes.length
      · exact .inr (.inr (.inr ⟨hfits, hlen⟩))
      · exact .inr (.inr (.inl ⟨hfits, State.decodeRows_stream hfits (Nat.not_le.mp hlen)⟩))

/-- A DECODE that raises nothing has delivered its bytes. -/
theorem State.fits_of_decodeRows_err {P : Params} {s : State} (h : (s.decodeRows P).err = false) :
    s.DecodeFits P ∧ s.pos.toNat + s.occ ≤ s.streamBytes.length := by
  rcases s.decodeRows_cases P with ⟨_, heq⟩ | ⟨_, heq⟩ | ⟨_, heq⟩ | hdelivers
  case inr.inr.inr => exact hdelivers
  all_goals
    rw [heq] at h
    exact absurd (h.symm.trans (State.raise_err _ _ _ _)) nofun

theorem State.pos_add_occ {s : State} (h : s.pos.toNat + s.occ ≤ 2 ^ 32 - 1) :
    (s.pos + BitVec.ofNat 32 s.occ).toNat = s.pos.toNat + s.occ := by
  rw [BitVec.toNat_add, BitVec.toNat_ofNat]
  omega

/-- Settles O8. -/
theorem decodeDelivers : Obligations.DecodeDelivers := by
  refine fun s herr => ⟨execDecode_of_not_err herr, fun P hactive hout hpos hlen => ?_⟩
  rw [State.decodeRows_delivers ⟨hactive, hout, hpos⟩ hlen]
  intro t
  have hreq := State.requested_length hlen
  have hread (i : Nat) : t.readOut i = (s.deliver s.requested).readOut i := rfl
  have hposnat : t.pos.toNat = s.pos.toNat + s.occ := State.pos_add_occ hpos
  refine ⟨fun i hi => ?_, fun i hi => ?_, fun a => rfl, hposnat, ?_, rfl, s.stripUntil_cfg _, s.stripUntil_lin _,
    fun hwf => ?_, rfl⟩
  · rw [hread, ← State.getElem?_requested hi]
    exact s.readOut_deliver_lt (by rwa [hreq])
  · rw [hread]
    exact s.readOut_deliver_ge (by rwa [hreq])
  · show (BitVec.ofNat 32 s.requested.length).toNat = s.occ
    rw [hreq, BitVec.toNat_ofNat]
    omega
  · rw [hposnat]
    exact State.stripUntil_output hwf hlen

/-- Settles O9. -/
theorem decodeFails : Obligations.DecodeFails := by
  refine fun s herr => ⟨execDecode_of_not_err herr, fun P => ?_⟩
  intro fails
  refine ⟨fun hactive => ?_, fun hactive hrange => ?_, fun hactive hout hpos hlen => ?_⟩
  · rw [State.decodeRows_noStrip hactive]
    exact State.raise_of_not_err herr _ _ _
  · rw [State.decodeRows_rowsRange hactive hrange]
    exact State.raise_of_not_err herr _ _ _
  · rw [State.decodeRows_stream ⟨hactive, hout, hpos⟩ hlen]
    intro kind row t
    refine ⟨fun i hi => ?_, ?_⟩
    · exact (State.raise_readOut _ _ _ _ i).trans (s.readOut_spoilOut hi)
    · have hraise : t = _ := State.raise_of_not_err (s := s.spoilOut s.occ) herr _ _ _
      rw [hraise]
      have hkind : kind = s.streamEnd.failure := by
        cases hend : s.streamEnd <;> simp only [kind, hend, Terminator.failure]
      rw [hkind]
      rfl

/-- Settles O10: the strip a DECODE leaves is the old one after some steps of its unit. -/
theorem decodeKeepsTheStream : Obligations.DecodeKeepsTheStream := by
  intro s t hwf hexec herr
  cases hs : s.err with
  | true =>
    cases (congrArg Outcome.next (State.unlessLatched_of_err hs _)).symm.trans hexec
    exact ⟨rfl, rfl, hwf⟩
  | false =>
    cases (execDecode_of_not_err hs).symm.trans hexec
    obtain ⟨hfits, hlen⟩ := State.fits_of_decodeRows_err herr
    rw [State.decodeRows_delivers hfits hlen]
    have hfinished := State.stripUntil_finished (s.pos.toNat + s.occ) hwf
    exact ⟨State.streamBytes_congr hfinished, State.streamEnd_congr hfinished, State.stripUntil_wf _ hwf⟩

/-! ### Two DECODEs and one -/

@[simp] theorem State.withRows_strip (s : State) (n : Word) : (s.withRows n).strip = s.strip := rfl
@[simp] theorem State.withRows_pos (s : State) (n : Word) : (s.withRows n).pos = s.pos := rfl

theorem State.withRows_occ (s : State) (n : Word) : (s.withRows n).occ = n.toNat * s.strip.cfg.bpr.toNat := by
  unfold State.occ Regs.read State.withRows
  rw [Regs.get_put_same]
  have hmask : n &&& RegName.rows.mask = n := BitVec.and_allOnes
  rw [hmask]

theorem State.withRows_streamBytes (s : State) (n : Word) : (s.withRows n).streamBytes = s.streamBytes :=
  State.streamBytes_congr rfl

/-- What a DECODE that raises nothing has done, in the terms of its rows. -/
theorem State.decodeRows_withRows {P : Params} {s : State} {n : Word} (hwf : s.strip.Wf)
    (h : ((s.withRows n).decodeRows P).err = false) :
    let t := (s.withRows n).decodeRows P
    let occ := n.toNat * s.strip.cfg.bpr.toNat
    (s.withRows n).DecodeFits P ∧ s.pos.toNat + occ ≤ 2 ^ 32 - 1 ∧ s.pos.toNat + occ ≤ s.streamBytes.length ∧
      t.strip.Wf ∧ t.strip.cfg = s.strip.cfg ∧ t.streamBytes = s.streamBytes ∧ t.pos.toNat = s.pos.toNat + occ ∧
      ∀ i < occ, s.streamBytes[s.pos.toNat + i]? = some (t.readOut i) := by
  obtain ⟨hfits, hlen⟩ := State.fits_of_decodeRows_err h
  have hpos := hfits.pos
  rw [State.decodeRows_delivers hfits hlen]
  have hreq := State.requested_length hlen
  have hposnat := State.pos_add_occ hpos
  have hbytes (i : Nat) (hi : i < (s.withRows n).occ) :
      s.streamBytes[s.pos.toNat + i]? = some (((s.withRows n).deliver (s.withRows n).requested).readOut i) := by
    rw [← s.withRows_streamBytes n]
    exact (State.getElem?_requested hi).symm.trans (State.readOut_deliver_lt _ (by rwa [hreq]))
  rw [State.withRows_occ] at hpos hlen hposnat hbytes ⊢
  rw [State.withRows_streamBytes] at hlen
  exact ⟨hfits, hpos, hlen, State.stripUntil_wf _ hwf, State.stripUntil_cfg _ _,
    State.streamBytes_congr (State.stripUntil_finished (s := s.withRows n) _ hwf), hposnat, hbytes⟩

/-- A DECODE whose rows the stream holds raises nothing where none is latched. -/
theorem State.decodeRows_err_of_fits {P : Params} {s : State} (herr : s.err = false) (h : s.DecodeFits P)
    (hlen : s.pos.toNat + s.occ ≤ s.streamBytes.length) : (s.decodeRows P).err = false := by
  rw [State.decodeRows_delivers h hlen]
  exact herr

/-- Settles O11: each of the three DECODEs delivers its part of one stream. -/
theorem splitInvariance : Obligations.SplitInvariance := by
  intro P s n m hwf herr t u v bpr hterr huerr hsum hout
  have hbpr : s.strip.cfg.bpr.toNat = bpr := rfl
  clear_value bpr
  obtain ⟨hfits, _, _, htwf, htcfg, htstream, htpos, htbytes⟩ := State.decodeRows_withRows hwf hterr
  obtain ⟨_, hupos, hulen, _, _, _, hupos', hubytes⟩ := State.decodeRows_withRows htwf huerr
  rw [hbpr] at htpos htbytes
  rw [htcfg, hbpr, htpos] at hupos hulen hupos' hubytes
  rw [htstream] at hulen hubytes
  have hnm : (n + m).toNat = n.toNat + m.toNat := by
    rw [BitVec.toNat_add, Nat.mod_eq_of_lt hsum]
  have hocc : (s.withRows (n + m)).occ = n.toNat * bpr + m.toNat * bpr := by
    rw [State.withRows_occ, hnm, hbpr, Nat.add_mul]
  have hvfits : (s.withRows (n + m)).DecodeFits P :=
    ⟨hfits.active, by rw [hocc, ← Nat.add_mul]; exact hout, by rw [hocc, State.withRows_pos]; omega⟩
  have hverr : v.err = false := by
    refine State.decodeRows_err_of_fits herr hvfits ?_
    rw [hocc, State.withRows_streamBytes, State.withRows_pos]
    omega
  obtain ⟨_, _, _, _, _, _, hvpos, hvbytes⟩ := State.decodeRows_withRows hwf hverr
  rw [hnm, hbpr, Nat.add_mul] at hvpos hvbytes
  refine ⟨hverr, BitVec.eq_of_toNat_eq (hvpos.trans ((Nat.add_assoc _ _ _).symm.trans hupos'.symm)), fun i hi => ?_⟩
  rw [Nat.add_mul] at hi
  have hv := hvbytes i hi
  split
  · rename_i hlt
    exact Option.some.inj (hv.symm.trans (htbytes i hlt))
  · rename_i hge
    have hu := hubytes (i - n.toNat * bpr) (by omega)
    rw [show s.pos.toNat + n.toNat * bpr + (i - n.toNat * bpr) = s.pos.toNat + i by omega] at hu
    exact Option.some.inj (hv.symm.trans hu)

end Sys2Proof.Machine

/-! The other commands (R100 to R102, R105 to R107, R422, R425). -/

namespace Sys2Proof.Machine

open Sys2Proof Host

/-! ### RESET (R105, R450) -/

theorem RegName.offset_of_ofOffset? {off : Nat} {n : RegName} (h : RegName.ofOffset? off = some n) :
    off = n.offset := by
  unfold RegName.ofOffset? at h
  split at h <;> cases h <;> rfl

theorem Regs.read_reset (n : RegName) : Regs.reset.read n = resetWord n.offset := by
  cases n <;> rfl

/-- Where no register stands the reset word is 0. -/
theorem resetWord_of_reserved {off : Nat} (h : RegName.ofOffset? off = none) : resetWord off = 0 := by
  unfold resetWord
  split
  case h_22 => rfl
  all_goals cases h

theorem readReg_reset (off : Nat) : State.reset.readReg off = resetWord off := by
  unfold State.readReg
  split
  case h_7 =>
    split
    case h_1 n hn =>
      rw [RegName.offset_of_ofOffset? hn]
      exact Regs.read_reset n
    case h_2 hnone => exact (resetWord_of_reserved hnone).symm
  all_goals rfl

/-- Settles O2. -/
theorem resetRestoresEverything : Obligations.ResetRestoresEverything :=
  ⟨fun s => ⟨s.resetBlock, rfl, readReg_reset, rfl, rfl, fun _ => rfl, fun _ => rfl, rfl, rfl, rfl, rfl, rfl⟩,
    readReg_reset, rfl, rfl, rfl, rfl⟩

/-! ### Admission (R100, R425) -/

/-- Settles O6. -/
theorem latchedErrorRefusesCommands : Obligations.LatchedErrorRefusesCommands := by
  intro s i w herr henc hreset hslice
  have hkeeps (f : State → State) : s.unlessLatched f = s := State.unlessLatched_of_err herr f
  cases i
  case nop => rfl
  case reset => exact absurd rfl hreset
  case sliceBegin => exact absurd rfl hslice
  case stripBegin => exact congrArg Outcome.next (hkeeps _)
  case decode => exact congrArg Outcome.next (hkeeps _)
  case loadJpegTables => exact congrArg Outcome.next (hkeeps _)
  case upsampleYcbcr => exact congrArg Outcome.next (hkeeps _)
  case stripEnd => exact congrArg Outcome.next (hkeeps _)
  case reservedOpc low => exact congrArg Outcome.next (hkeeps _)
  case reservedBits r o => exact congrArg Outcome.next (hkeeps _)
  all_goals cases henc

theorem State.raiseOther_of_not_err {s : State} (h : s.err = false) (k : ErrKind) :
    s.raiseOther k =
      { s with
        latch := some { kind := k, row := 0, strip := s.regs.read .stripIndex }
        stripActive := false
        outValid := false } :=
  State.raise_of_not_err h k 0 _

/-! ### Check lists -/

/-- A check and those after it, as the first of a chain of conditions. -/
theorem firstFailure_cons_eq {p : Prop} [Decidable p] {ok : Bool} {k : ErrKind} {l : List (Bool × ErrKind)}
    {r : Option ErrKind} (hp : ok = false ↔ p) (hrest : firstFailure l = r) :
    firstFailure ((ok, k) :: l) = if p then some k else r := by
  unfold firstFailure
  by_cases h : p
  · rw [if_pos h, hp.mpr h]
    rfl
  · rw [if_neg h, if_pos (Bool.not_eq_false _ ▸ mt hp.mp h), hrest]

/-- The error raised is that of one of the checks. -/
theorem exists_mem_of_firstFailure {k : ErrKind} : ∀ {l : List (Bool × ErrKind)}, firstFailure l = some k →
    ∃ ok, (ok, k) ∈ l := by
  intro l
  induction l with
  | nil => exact nofun
  | cons p l ih =>
    obtain ⟨ok, k'⟩ := p
    intro h
    unfold firstFailure at h
    split at h
    · obtain ⟨ok', hmem⟩ := ih h
      exact ⟨ok', List.mem_cons_of_mem _ hmem⟩
    · cases h
      exact ⟨ok, List.mem_cons_self⟩

/-! ### STRIP_BEGIN's checks (R39, R170, R190, R280, R310, R380) -/

/-- The codecs there are (R27). -/
theorem Latched.unit?_isSome {L : Latched} :
    L.unit?.isSome = false ↔ L.codec.toNat ∉ [2, 3, 4, 5, 7, 8, 32946, 32773, 34676, 34677] := by
  unfold Latched.unit?
  split
  case h_11 => simp_all
  case h_9 h => rw [h]; split <;> simp
  all_goals simp [*]

theorem Latched.unit?_eq_g3 {L : Latched} : L.unit? = some .g3 ↔ L.codec.toNat = 3 := by
  unfold Latched.unit?
  split
  case h_9 h => rw [h]; split <;> simp
  all_goals simp_all

theorem Latched.unit?_eq_g4 {L : Latched} : L.unit? = some .g4 ↔ L.codec.toNat = 4 := by
  unfold Latched.unit?
  split
  case h_9 h => rw [h]; split <;> simp
  all_goals simp_all

theorem Latched.unit?_eq_logL16 {L : Latched} :
    L.unit? = some .logL16 ↔ L.codec.toNat = 34676 ∧ L.photometric.toNat = 32844 := by
  unfold Latched.unit?
  split
  case h_9 h => rw [h]; split <;> simp [*]
  all_goals simp_all

theorem Latched.predictorLegal_eq_false {L : Latched} :
    L.predictorLegal = false ↔
      L.predictor ≠ 1 ∧ ¬(L.predictor = 2 ∧ L.codec.toNat ∈ [5, 8, 32946, 32773]) := by
  have hone : L.predictor = 1 ↔ L.predictor.toNat = 1 := BitVec.toNat_inj.symm
  have htwo : L.predictor = 2 ↔ L.predictor.toNat = 2 := BitVec.toNat_inj.symm
  rw [Latched.predictorLegal, Ne, hone, htwo]
  simp

/-- The general checks, in order, and then the unit's own. -/
theorem firstFailure_stripChecks (P : Params) (L : Latched) :
    firstFailure (stripChecks P L) =
      if L.codec.toNat ∉ [2, 3, 4, 5, 7, 8, 32946, 32773, 34676, 34677] then some .codec
      else if P.maxInBytes < L.inLen.toNat then some .inLen
      else if L.bpr = 0 then some .bpr
      else if L.spp = 0 then some .spp
      else if L.bps = 0 then some .bps
      else if L.predictor ≠ 1 ∧ ¬(L.predictor = 2 ∧ L.codec.toNat ∈ [5, 8, 32946, 32773]) then some .predictor
      else firstFailure (unitChecks P L) :=
  firstFailure_cons_eq Latched.unit?_isSome <|
    firstFailure_cons_eq (by rw [decide_eq_false_iff_not, Nat.not_le]) <|
    firstFailure_cons_eq (by rw [decide_eq_false_iff_not, not_not]) <|
    firstFailure_cons_eq (by rw [decide_eq_false_iff_not, not_not]) <|
    firstFailure_cons_eq (by rw [decide_eq_false_iff_not, not_not]) <|
    firstFailure_cons_eq Latched.predictorLegal_eq_false rfl

theorem unitChecks_fax {P : Params} {L : Latched} (h : L.codec.toNat ∈ [2, 3, 4]) :
    unitChecks P L = faxChecks P L := by
  simp only [List.mem_cons, List.not_mem_nil, or_false] at h
  rcases h with h | h | h <;> simp only [unitChecks, Latched.unit?, h]

theorem unitChecks_predictor {P : Params} {L : Latched} (h : L.codec.toNat ∈ [5, 8, 32946, 32773]) :
    unitChecks P L = predictorChecks L := by
  simp only [List.mem_cons, List.not_mem_nil, or_false] at h
  rcases h with h | h | h | h <;> simp only [unitChecks, Latched.unit?, h]

theorem unitChecks_logLuv {P : Params} {L : Latched} (h : L.codec.toNat ∈ [34676, 34677]) :
    unitChecks P L = logLuvChecks P L := by
  simp only [List.mem_cons, List.not_mem_nil, or_false] at h
  rcases h with h | h
  · simp only [unitChecks, Latched.unit?, h]
    by_cases hphoto : L.photometric.toNat = 32844
    · rw [if_pos hphoto]
    · rw [if_neg hphoto]
  · simp only [unitChecks, Latched.unit?, h]

theorem unitChecks_jpeg {P : Params} {L : Latched} (h : L.codec.toNat = 7) : unitChecks P L = jpegChecks P L := by
  simp only [unitChecks, Latched.unit?, h]

theorem decide_range_eq_false {lo n hi : Nat} : decide (lo ≤ n ∧ n ≤ hi) = false ↔ n < lo ∨ hi < n := by
  rw [decide_eq_false_iff_not]
  omega

theorem firstFailure_faxChecks (P : Params) (L : Latched) :
    firstFailure (faxChecks P L) =
      if L.bps.toNat ≠ 1 then some .bps
      else if L.spp.toNat ≠ 1 then some .spp
      else if L.width.toNat < 1 ∨ P.maxWidth < L.width.toNat then some .width
      else if L.bpr.toNat ≠ (L.width.toNat + 7) / 8 then some .bpr
      else if (L.codec.toNat = 3 ∧ L.t4opt.getLsbD 1 = true) ∨ (L.codec.toNat = 4 ∧ L.t6opt.getLsbD 1 = true) then
        some .faxUncompressed
      else none := by
  refine firstFailure_cons_eq decide_eq_false_iff_not <| firstFailure_cons_eq decide_eq_false_iff_not <|
    firstFailure_cons_eq decide_range_eq_false <| firstFailure_cons_eq decide_eq_false_iff_not ?_
  rw [firstFailure_cons_eq (p := L.codec.toNat = 3 ∧ L.t4opt.getLsbD 1 = true) (by simp [Latched.unit?_eq_g3])
      (firstFailure_cons_eq (p := L.codec.toNat = 4 ∧ L.t6opt.getLsbD 1 = true) (by simp [Latched.unit?_eq_g4]) rfl),
    ite_or]
  rfl

theorem firstFailure_predictorChecks (L : Latched) :
    firstFailure (predictorChecks L) =
      if L.predictor.toNat ≠ 2 then none
      else if L.bps.toNat ∉ [8, 16, 32] then some .predictor
      else if L.bpr.toNat % (L.bps.toNat / 8) ≠ 0 then some .bpr
      else none := by
  unfold predictorChecks
  by_cases h : L.predictor.toNat = 2
  · rw [if_pos h, if_neg (not_not.mpr h)]
    exact firstFailure_cons_eq (by simp) (firstFailure_cons_eq decide_eq_false_iff_not rfl)
  · rw [if_neg h, if_pos h]
    rfl

theorem firstFailure_logLuvChecks (P : Params) (L : Latched) :
    firstFailure (logLuvChecks P L) =
      if L.width.toNat < 1 ∨ P.maxWidth < L.width.toNat then some .width
      else if L.bpr.toNat ≠ (if L.codec.toNat = 34676 ∧ L.photometric.toNat = 32844 then L.width.toNat
        else 3 * L.width.toNat) then some .bpr
      else none := by
  refine firstFailure_cons_eq decide_range_eq_false (firstFailure_cons_eq ?_ rfl)
  simp only [decide_eq_false_iff_not, Latched.unit?_eq_logL16]
  rfl

theorem YccCoefs.ok_eq_false {c : YccCoefs} :
    c.ok = false ↔
      0 ∈ [c.lumaRDen, c.lumaGDen, c.lumaBDen, c.refbw0Den, c.refbw1Den, c.refbw2Den, c.refbw3Den, c.refbw4Den,
        c.refbw5Den] ∨ c.lumaGNum = 0 ∨ c.rb 1 = c.rb 0 ∨ c.rb 3 = c.rb 2 ∨ c.rb 5 = c.rb 4 := by
  rw [← Bool.not_eq_true, not_iff_comm]
  simp only [YccCoefs.ok, Bool.and_eq_true, decide_eq_true_eq, List.mem_cons, List.not_mem_nil, or_false, not_or,
    eq_comm (a := (0 : Word)), ne_eq, and_assoc]

theorem Latched.colourStage_iff {L : Latched} :
    L.colourStage = true ↔ L.ycc2rgb = true ∧ L.photometric.toNat = 6 ∧ L.nc = 3 := by
  simp [Latched.colourStage, and_assoc]

theorem firstFailure_jpegChecks (P : Params) (L : Latched) :
    firstFailure (jpegChecks P L) =
      if L.width.toNat < 1 ∨ P.maxWidth < L.width.toNat then some .width
      else if L.bps.toNat ≠ 8 then some .bps
      else if L.spp.toNat < 1 ∨ 4 < L.spp.toNat then some .spp
      else if L.bpr.toNat ≠ L.width.toNat * L.nc then some .bpr
      else if (L.ycc2rgb = true ∧ L.photometric.toNat = 6 ∧ L.nc = 3) ∧
          (0 ∈ [L.coef.lumaRDen, L.coef.lumaGDen, L.coef.lumaBDen, L.coef.refbw0Den, L.coef.refbw1Den,
              L.coef.refbw2Den, L.coef.refbw3Den, L.coef.refbw4Den, L.coef.refbw5Den] ∨
            L.coef.lumaGNum = 0 ∨ L.coef.rb 1 = L.coef.rb 0 ∨ L.coef.rb 3 = L.coef.rb 2 ∨
            L.coef.rb 5 = L.coef.rb 4) then some .yccCoef
      else none :=
  firstFailure_cons_eq decide_range_eq_false <| firstFailure_cons_eq decide_eq_false_iff_not <|
    firstFailure_cons_eq decide_range_eq_false <| firstFailure_cons_eq decide_eq_false_iff_not <|
    firstFailure_cons_eq
      (by rw [Bool.or_eq_false_iff, Bool.not_eq_false', Latched.colourStage_iff, YccCoefs.ok_eq_false]) rfl

/-! ### STRIP_BEGIN (R102) -/

theorem execStripBegin_of_not_err {s : State} (h : s.err = false) :
    exec .stripBegin s = .next (s.beginStrip Config.params) :=
  congrArg Outcome.next (State.unlessLatched_of_not_err h _)

theorem State.beginStrip_noSlice {P : Params} {s : State} (h : s.sliceActive = false) :
    s.beginStrip P = s.raiseOther .noSlice := by
  unfold State.beginStrip
  simp [h]

/-- The strip before STRIP_BEGIN is ended before the checks are made. -/
def State.endStrip (s : State) : State :=
  { s with stripActive := false, pos := 0, lzwOld := false }

/-- The strip that STRIP_BEGIN begins. -/
def State.latchStrip (s : State) : State :=
  { s with
    stripActive := true
    pos := 0
    lzwOld := decide ((s.regs.read .codec).toNat = 5) && oldVariant (s.inBytes (s.regs.read .inLen).toNat)
    strip := StripState.init s.regs.latchAll (s.inBytes (s.regs.read .inLen).toNat) s.tables }

theorem State.beginStrip_fails {P : Params} {s : State} (hslice : s.sliceActive = true) {k : ErrKind}
    (h : firstFailure (stripChecks P s.regs.latchAll) = some k) : s.beginStrip P = s.endStrip.raiseOther k := by
  have hnot : ¬(!s.sliceActive) = true := by simp [hslice]
  unfold State.beginStrip
  rw [if_neg hnot]
  dsimp only
  rw [h]
  rfl

theorem State.beginStrip_latches {P : Params} {s : State} (hslice : s.sliceActive = true)
    (h : firstFailure (stripChecks P s.regs.latchAll) = none) : s.beginStrip P = s.latchStrip := by
  have hnot : ¬(!s.sliceActive) = true := by simp [hslice]
  unfold State.beginStrip
  rw [if_neg hnot]
  dsimp only
  rw [h]
  rfl

theorem State.beginStrip_of_slice {P : Params} {s : State} (hslice : s.sliceActive = true) :
    s.beginStrip P = (firstFailure (stripChecks P s.regs.latchAll)).elim s.latchStrip s.endStrip.raiseOther := by
  cases h : firstFailure (stripChecks P s.regs.latchAll) with
  | some k => exact State.beginStrip_fails hslice h
  | none => exact State.beginStrip_latches hslice h

theorem elim_ite_some {α β : Type} {p : Prop} [Decidable p] (k : α) (r : Option α) (b : β) (f : α → β) :
    (if p then some k else r).elim b f = if p then f k else r.elim b f := by
  split_ifs <;> rfl

/-- Settles O7. -/
theorem stripBeginChecksThenLatches : Obligations.StripBeginChecksThenLatches := by
  refine ⟨fun s herr => ⟨execStripBegin_of_not_err herr, fun P => ?_⟩, fun P L => ?_⟩
  · intro r fails
    refine ⟨fun hslice => ?_, fun hslice => ?_⟩
    · rw [State.beginStrip_noSlice hslice]
      exact State.raiseOther_of_not_err herr _
    · rw [State.beginStrip_of_slice hslice, firstFailure_stripChecks]
      have hfails : s.endStrip.raiseOther = fails := funext (State.raiseOther_of_not_err (s := s.endStrip) herr)
      rw [hfails]
      simp only [elim_ite_some]
      cases firstFailure (unitChecks P s.regs.latchAll) <;> rfl
  · intro codec width bpr own
    refine ⟨fun h => ?_, fun h => ?_, fun h => ?_, fun h => ?_⟩
    · exact (congrArg firstFailure (unitChecks_fax h)).trans (firstFailure_faxChecks P L)
    · exact (congrArg firstFailure (unitChecks_predictor h)).trans (firstFailure_predictorChecks L)
    · exact (congrArg firstFailure (unitChecks_logLuv h)).trans (firstFailure_logLuvChecks P L)
    · intro nc c
      exact (congrArg firstFailure (unitChecks_jpeg h)).trans (firstFailure_jpegChecks P L)

end Sys2Proof.Machine

/-! LOAD_JPEG_TABLES and UPSAMPLE_YCBCR, and the errors of each command (R106, R107, R340, R386, R387, R422). -/

namespace Sys2Proof.Machine

open Sys2Proof Host

/-! ### LOAD_JPEG_TABLES -/

theorem execLoadJpegTables_of_not_err {s : State} (h : s.err = false) :
    exec .loadJpegTables s = .next (s.loadTables Config.params) :=
  congrArg Outcome.next (State.unlessLatched_of_not_err h _)

/-- Settles O12. -/
theorem loadTablesLoads : Obligations.LoadTablesLoads := by
  refine fun s herr => ⟨execLoadJpegTables_of_not_err herr, fun P => ?_⟩
  intro n fails
  have hfails (k : ErrKind) : s.raiseOther k = fails k := State.raiseOther_of_not_err herr k
  unfold State.loadTables
  dsimp only
  rw [hfails, hfails, hfails]
  cases s.sliceActive with
  | false => rfl
  | true =>
    refine ite_congr (by simp) (fun _ => rfl) fun _ => ite_congr rfl (fun _ => rfl) fun _ =>
      ite_congr rfl (fun _ => rfl) fun _ => ?_
    cases s.parseTables (s.inBytes (s.regs.read .inLen).toNat) with
    | ok T => rfl
    | error k => exact hfails k

/-- The tables stream's own error is one a stream can have. -/
theorem State.parseTables_error {s : State} {lin : List Byte} {k : ErrKind} (h : s.parseTables lin = .error k) :
    k.inStream = true := by
  have hend : (StripState.tablesStream lin s.tables).finished.EndsInStream :=
    StripState.iterate_endsInStream _ rfl
  unfold State.parseTables at h
  rw [State.finished_eq] at h
  dsimp only at h
  split at h
  case h_1 => cases h
  case h_2 hterm =>
    cases h
    exact hend _ hterm
  case h_3 =>
    cases h
    rfl

theorem JpegState.init_tables (b : Bool) (T : JpegTables) : (JpegState.init b T).tables = T := rfl

theorem StripState.tablesStream_tablesWf (lin : List Byte) {T : JpegTables} (h : T.Wf) :
    (StripState.tablesStream lin T).TablesWf := by
  rintro _ ⟨⟩
  exact h

/-- What a tables stream parses to is whole. -/
theorem State.parseTables_wf {s : State} {lin : List Byte} {T : JpegTables} (hs : s.tables.Wf)
    (h : s.parseTables lin = .ok T) : T.Wf := by
  have hwf : (StripState.tablesStream lin s.tables).finished.TablesWf :=
    StripState.iterate_tablesWf _ (StripState.tablesStream_tablesWf lin hs)
  unfold State.parseTables at h
  rw [State.finished_eq] at h
  dsimp only at h
  split at h
  case h_1 j _ hcodec =>
    cases h
    exact hwf j hcodec
  all_goals cases h

/-- Everything a LOAD_JPEG_TABLES can do. -/
theorem State.loadTables_cases (P : Params) (s : State) :
    (∃ k, s.loadTables P = s.raiseOther k ∧
      (k = .noSlice ∨ k = .stripActive ∨ k = .inLen ∨ k.inStream = true)) ∨
    (s.sliceActive = true ∧ ∃ lin T, s.parseTables lin = .ok T ∧
      s.loadTables P = { s with tables := T, tablesLoaded := true }) := by
  unfold State.loadTables
  dsimp only
  split_ifs with hslice hactive hlen
  · exact .inl ⟨_, rfl, .inl rfl⟩
  · exact .inl ⟨_, rfl, .inr (.inl rfl)⟩
  · exact .inl ⟨_, rfl, .inr (.inr (.inl rfl))⟩
  · split
    case h_1 k hparse => exact .inl ⟨k, rfl, .inr (.inr (.inr (State.parseTables_error hparse)))⟩
    case h_2 T hparse => exact .inr ⟨by simpa using hslice, _, T, hparse, rfl⟩

/-! ### UPSAMPLE_YCBCR -/

theorem execUpsampleYcbcr_of_not_err {s : State} (h : s.err = false) :
    exec .upsampleYcbcr s = .next (s.upsample Config.params) :=
  congrArg Outcome.next (State.unlessLatched_of_not_err h _)

theorem State.upsample_stripActive {P : Params} {s : State} (h : s.stripActive = true) :
    s.upsample P = s.raiseOther .stripActive := by
  unfold State.upsample
  exact if_pos h

theorem State.upsample_fails {P : Params} {s : State} (h : s.stripActive = false) {k : ErrKind}
    (hk : firstFailure (upsampleChecks P s.regs) = some k) : s.upsample P = s.raiseOther k := by
  have hnot : ¬s.stripActive = true := by simp [h]
  unfold State.upsample
  dsimp only
  rw [if_neg hnot, hk]

theorem State.inBytes_length (s : State) (n : Nat) : (s.inBytes n).length = n := by
  rw [State.inBytes, List.length_map, List.length_range]

theorem State.upsample_of_checks {P : Params} {s : State} (h : s.stripActive = false)
    (hk : firstFailure (upsampleChecks P s.regs) = none) :
    s.upsample P =
      (s.regs.upsampling.run s.regs.coef (s.inBytes (s.regs.read .inLen).toNat)).elim
        ((s.spoilOut (3 * s.regs.upsampling.w * s.regs.upsampling.h)).raiseOther .truncated) s.deliver := by
  have hnot : ¬s.stripActive = true := by simp [h]
  unfold State.upsample
  dsimp only
  rw [if_neg hnot, hk]
  dsimp only
  cases s.regs.upsampling.run s.regs.coef (s.inBytes (s.regs.read .inLen).toNat) <;> rfl

/-- The image that UPSAMPLE_YCBCR writes: the pixels row by row (R387). -/
def Upsampling.image (u : Upsampling) (c : YccCoefs) (b : List Byte) : List Byte :=
  (List.range u.h).flatMap fun y => (List.range u.w).flatMap fun x => u.pixel c b x y

theorem State.upsample_truncated {P : Params} {s : State} (h : s.stripActive = false)
    (hk : firstFailure (upsampleChecks P s.regs) = none)
    (hlen : (s.regs.read .inLen).toNat < s.regs.upsampling.need) :
    s.upsample P = (s.spoilOut (3 * s.regs.upsampling.w * s.regs.upsampling.h)).raiseOther .truncated := by
  rw [State.upsample_of_checks h hk, Upsampling.run, if_pos (by rwa [State.inBytes_length])]
  rfl

theorem State.upsample_delivers {P : Params} {s : State} (h : s.stripActive = false)
    (hk : firstFailure (upsampleChecks P s.regs) = none)
    (hlen : s.regs.upsampling.need ≤ (s.regs.read .inLen).toNat) :
    s.upsample P =
      s.deliver (s.regs.upsampling.image s.regs.coef (s.inBytes (s.regs.read .inLen).toNat)) := by
  rw [State.upsample_of_checks h hk, Upsampling.run, if_neg (by rwa [State.inBytes_length, Nat.not_lt])]
  rfl

/-- Everything an UPSAMPLE_YCBCR can do. -/
theorem State.upsample_cases (P : Params) (s : State) :
    s.upsample P = s.raiseOther .stripActive ∨
    (∃ k, firstFailure (upsampleChecks P s.regs) = some k ∧ s.upsample P = s.raiseOther k) ∨
    (firstFailure (upsampleChecks P s.regs) = none ∧
      s.upsample P = (s.spoilOut (3 * s.regs.upsampling.w * s.regs.upsampling.h)).raiseOther .truncated) ∨
    (s.stripActive = false ∧ firstFailure (upsampleChecks P s.regs) = none ∧
      s.upsample P =
        s.deliver (s.regs.upsampling.image s.regs.coef (s.inBytes (s.regs.read .inLen).toNat))) := by
  cases hactive : s.stripActive with
  | true => exact .inl (State.upsample_stripActive hactive)
  | false =>
    cases hk : firstFailure (upsampleChecks P s.regs) with
    | some k => exact .inr (.inl ⟨k, rfl, State.upsample_fails hactive hk⟩)
    | none =>
      by_cases hlen : s.regs.upsampling.need ≤ (s.regs.read .inLen).toNat
      · exact .inr (.inr (.inr ⟨rfl, rfl, State.upsample_delivers hactive hk hlen⟩))
      · exact .inr (.inr (.inl ⟨rfl, State.upsample_truncated hactive hk (Nat.not_le.mp hlen)⟩))

/-- A list of `n` blocks of `k` entries has `n * k` entries. -/
theorem length_flatMap_range {α : Type} {f : Nat → List α} {n k : Nat} (hf : ∀ i < n, (f i).length = k) :
    ((List.range n).flatMap f).length = n * k := by
  induction n with
  | zero => rw [Nat.zero_mul]; rfl
  | succ n ih =>
    rw [List.range_succ, List.flatMap_append, List.length_append, ih fun i hi => hf i (Nat.lt_succ_of_lt hi),
      List.flatMap_singleton, hf n (Nat.lt_succ_self n), Nat.succ_mul]

/-- Entry `j` of block `i` of such a list. -/
theorem getElem?_flatMap_range {α : Type} {f : Nat → List α} {n k i j : Nat} (hf : ∀ i < n, (f i).length = k)
    (hi : i < n) (hj : j < k) : ((List.range n).flatMap f)[i * k + j]? = (f i)[j]? := by
  induction n with
  | zero => exact absurd hi (Nat.not_lt_zero i)
  | succ n ih =>
    have hf' : ∀ i < n, (f i).length = k := fun i hi => hf i (Nat.lt_succ_of_lt hi)
    have hlen := length_flatMap_range hf'
    rw [List.range_succ, List.flatMap_append, List.flatMap_singleton]
    rcases Nat.lt_succ_iff_lt_or_eq.mp hi with hlt | rfl
    · have hin : i * k + j < n * k :=
        calc i * k + j < i * k + k := Nat.add_lt_add_left hj _
          _ = (i + 1) * k := (Nat.succ_mul i k).symm
          _ ≤ n * k := Nat.mul_le_mul_right k hlt
      rw [List.getElem?_append_left (by rwa [hlen]), ih hf' hlt]
    · rw [List.getElem?_append_right (by rw [hlen]; exact Nat.le_add_right _ _), hlen, Nat.add_sub_cancel_left]

theorem Upsampling.pixel_length (u : Upsampling) (c : YccCoefs) (b : List Byte) (x y : Nat) :
    (u.pixel c b x y).length = 3 := by
  unfold Upsampling.pixel
  split_ifs <;> rfl

theorem Upsampling.image_length (u : Upsampling) (c : YccCoefs) (b : List Byte) :
    (u.image c b).length = 3 * u.w * u.h := by
  have hrow (y : Nat) : ((List.range u.w).flatMap fun x => u.pixel c b x y).length = u.w * 3 :=
    length_flatMap_range fun x _ => u.pixel_length c b x y
  unfold Upsampling.image
  rw [length_flatMap_range fun y _ => hrow y, Nat.mul_comm u.w, Nat.mul_comm]

theorem Upsampling.getElem?_image (u : Upsampling) (c : YccCoefs) (b : List Byte) {x y i : Nat} (hx : x < u.w)
    (hy : y < u.h) (hi : i < 3) : (u.image c b)[3 * (y * u.w + x) + i]? = (u.pixel c b x y)[i]? := by
  have hpixel (x' y' : Nat) : (u.pixel c b x' y').length = 3 := u.pixel_length c b x' y'
  have hcol : x * 3 + i < u.w * 3 := by omega
  have hplace : 3 * (y * u.w + x) + i = y * (u.w * 3) + (x * 3 + i) := by ring
  rw [hplace, Upsampling.image,
    getElem?_flatMap_range (fun y' _ => length_flatMap_range fun x' _ => hpixel x' y') hy hcol,
    getElem?_flatMap_range (fun x' _ => hpixel x' y) hx hi]

/-- Settles O13. -/
theorem upsampleDelivers : Obligations.UpsampleDelivers := by
  refine fun s herr => ⟨execUpsampleYcbcr_of_not_err herr, fun P hactive hk hlen => ?_⟩
  rw [State.upsample_delivers hactive hk hlen]
  intro u b t
  have himage : (u.image s.regs.coef b).length = 3 * u.w * u.h := u.image_length _ _
  refine ⟨fun x hx y hy c hc => ?_, fun i hi => ?_, ?_, rfl⟩
  · have hin : 3 * (y * u.w + x) + c < 3 * u.w * u.h :=
      calc 3 * (y * u.w + x) + c < 3 * (y * u.w + u.w) := by omega
        _ = 3 * u.w * (y + 1) := by ring
        _ ≤ 3 * u.w * u.h := Nat.mul_le_mul_left _ hy
    rw [← Upsampling.getElem?_image u _ b hx hy hc]
    exact s.readOut_deliver_lt (by rwa [himage])
  · exact s.readOut_deliver_ge (by rwa [himage])
  · show (BitVec.ofNat 32 (u.image s.regs.coef b).length).toNat = _
    rw [himage, BitVec.toNat_ofNat]

/-- Settles O14. -/
theorem upsampleFails : Obligations.UpsampleFails := by
  refine fun s herr => ⟨execUpsampleYcbcr_of_not_err herr, fun P => ?_⟩
  intro u fails
  have hfails (k : ErrKind) : s.raiseOther k = fails k := State.raiseOther_of_not_err herr k
  refine ⟨fun hactive => ?_, fun hactive k hk => ?_, fun hactive hk hlen => ?_⟩
  · rw [State.upsample_stripActive hactive, hfails]
  · rw [State.upsample_fails hactive hk, hfails]
  · rw [State.upsample_truncated hactive hk hlen]
    intro t
    refine ⟨fun i hi => (State.raise_readOut _ _ _ _ i).trans (s.readOut_spoilOut hi), ?_⟩
    have hraise : t = _ := State.raiseOther_of_not_err (s := s.spoilOut _) herr _
    rw [hraise]
    rfl

/-! ### Which errors a command raises (R422) -/

theorem State.latch_raise {s : State} (h : s.err = false) {k : ErrKind} {r t : Word} {e : ErrorLatch}
    (he : (s.raise k r t).latch = some e) : e.kind = k := by
  rw [State.raise_of_not_err h] at he
  cases he
  rfl

theorem State.latch_ne_some {s : State} (h : s.err = false) (e : ErrorLatch) : s.latch ≠ some e := by
  rw [State.latch_eq_none_of_err_eq_false h]
  exact nofun

/-- An error of STRIP_BEGIN's checks is a ConfigError or an UnsupportedFeature. -/
def ErrKind.IsConfig (k : ErrKind) : Prop :=
  k.cls = 3 ∨ k.cls = 2

theorem faxChecks_isConfig (P : Params) (L : Latched) : ∀ p ∈ faxChecks P L, p.2.IsConfig := by
  simp [faxChecks, ErrKind.IsConfig, ErrKind.cls]

theorem predictorChecks_isConfig (L : Latched) : ∀ p ∈ predictorChecks L, p.2.IsConfig := by
  unfold predictorChecks
  split <;> simp [ErrKind.IsConfig, ErrKind.cls]

theorem logLuvChecks_isConfig (P : Params) (L : Latched) : ∀ p ∈ logLuvChecks P L, p.2.IsConfig := by
  simp [logLuvChecks, ErrKind.IsConfig, ErrKind.cls]

theorem jpegChecks_isConfig (P : Params) (L : Latched) : ∀ p ∈ jpegChecks P L, p.2.IsConfig := by
  simp [jpegChecks, ErrKind.IsConfig, ErrKind.cls]

theorem unitChecks_isConfig (P : Params) (L : Latched) : ∀ p ∈ unitChecks P L, p.2.IsConfig := by
  unfold unitChecks
  cases L.unit? with
  | none => exact fun p hp => absurd hp List.not_mem_nil
  | some u =>
    cases u with
    | mh => exact faxChecks_isConfig P L
    | g3 => exact faxChecks_isConfig P L
    | g4 => exact faxChecks_isConfig P L
    | lzw => exact predictorChecks_isConfig L
    | packBits => exact predictorChecks_isConfig L
    | deflate => exact predictorChecks_isConfig L
    | logL16 => exact logLuvChecks_isConfig P L
    | logLuv32 => exact logLuvChecks_isConfig P L
    | logLuv24 => exact logLuvChecks_isConfig P L
    | jpeg => exact jpegChecks_isConfig P L

theorem stripChecks_isConfig (P : Params) (L : Latched) : ∀ p ∈ stripChecks P L, p.2.IsConfig := by
  unfold stripChecks
  rw [List.forall_mem_append]
  exact ⟨by simp [ErrKind.IsConfig, ErrKind.cls], unitChecks_isConfig P L⟩

theorem upsampleChecks_cls (P : Params) (r : Regs) : ∀ p ∈ upsampleChecks P r, p.2.cls = 3 := by
  simp [upsampleChecks, ErrKind.cls]

/-- Everything a STRIP_BEGIN can do. -/
theorem State.beginStrip_cases (P : Params) (s : State) :
    s.beginStrip P = s.raiseOther .noSlice ∨
    (∃ k, firstFailure (stripChecks P s.regs.latchAll) = some k ∧ s.beginStrip P = s.endStrip.raiseOther k) ∨
    (s.sliceActive = true ∧ firstFailure (stripChecks P s.regs.latchAll) = none ∧
      s.beginStrip P = s.latchStrip) := by
  cases hslice : s.sliceActive with
  | false => exact .inl (State.beginStrip_noSlice hslice)
  | true =>
    cases hk : firstFailure (stripChecks P s.regs.latchAll) with
    | some k => exact .inr (.inl ⟨k, rfl, State.beginStrip_fails hslice hk⟩)
    | none => exact .inr (.inr ⟨rfl, rfl, State.beginStrip_latches hslice hk⟩)

theorem State.beginStrip_kind {P : Params} {s : State} (h : s.err = false) {e : ErrorLatch}
    (he : (s.beginStrip P).latch = some e) : e.kind = .noSlice ∨ e.kind.cls = 3 ∨ e.kind.cls = 2 := by
  rcases s.beginStrip_cases P with heq | ⟨k, hk, heq⟩ | ⟨_, _, heq⟩ <;> rw [heq] at he
  · exact .inl (State.latch_raise h he)
  · obtain ⟨ok, hmem⟩ := exists_mem_of_firstFailure hk
    have hkind : e.kind = k := State.latch_raise (s := s.endStrip) h he
    exact .inr (hkind ▸ stripChecks_isConfig P _ _ hmem)
  · exact absurd he (State.latch_ne_some h e)

theorem State.decodeRows_kind {P : Params} {s : State} (h : s.err = false) (hterm : s.strip.term = none)
    {e : ErrorLatch} (he : (s.decodeRows P).latch = some e) :
    e.kind = .noStrip ∨ e.kind = .rowsRange ∨ e.kind.inStream = true := by
  rcases s.decodeRows_cases P with ⟨_, heq⟩ | ⟨_, heq⟩ | ⟨_, heq⟩ | ⟨hfits, hlen⟩
  · rw [heq] at he
    exact .inl (State.latch_raise h he)
  · rw [heq] at he
    exact .inr (.inl (State.latch_raise h he))
  · rw [heq] at he
    have hkind : e.kind = s.streamEnd.failure := State.latch_raise (s := s.spoilOut s.occ) h he
    exact .inr (.inr (hkind ▸ State.failure_inStream hterm))
  · rw [State.decodeRows_delivers hfits hlen] at he
    exact absurd he (State.latch_ne_some h e)

theorem State.loadTables_kind {P : Params} {s : State} (h : s.err = false) {e : ErrorLatch}
    (he : (s.loadTables P).latch = some e) :
    e.kind = .noSlice ∨ e.kind = .stripActive ∨ e.kind = .inLen ∨ e.kind.inStream = true := by
  rcases s.loadTables_cases P with ⟨k, heq, hk⟩ | ⟨_, lin, T, _, heq⟩ <;> rw [heq] at he
  · rwa [State.latch_raise h he]
  · exact absurd he (State.latch_ne_some h e)

theorem State.upsample_kind {P : Params} {s : State} (h : s.err = false) {e : ErrorLatch}
    (he : (s.upsample P).latch = some e) :
    e.kind = .stripActive ∨ e.kind.cls = 3 ∨ e.kind = .truncated := by
  rcases s.upsample_cases P with heq | ⟨k, hk, heq⟩ | ⟨_, heq⟩ | ⟨_, _, heq⟩ <;> rw [heq] at he
  · exact .inl (State.latch_raise h he)
  · obtain ⟨ok, hmem⟩ := exists_mem_of_firstFailure hk
    have hkind : e.kind = k := State.latch_raise h he
    exact .inr (.inl (hkind ▸ upsampleChecks_cls P _ _ hmem))
  · exact .inr (.inr (State.latch_raise (s := s.spoilOut _) h he))
  · exact absurd he (State.latch_ne_some h e)

/-- Settles O15. -/
theorem commandsRaiseOnlyTheirErrors : Obligations.CommandsRaiseOnlyTheirErrors := by
  intro s t i e herr hexec he
  have hnone := State.latch_ne_some herr e
  refine ⟨⟨?nop, ?reset, ?sliceBegin, ?stripEnd⟩, ?stripBegin, ?decode, ?loadTables, ?upsample⟩
  case nop =>
    rintro rfl
    cases hexec
    exact hnone he
  case reset =>
    rintro rfl
    cases hexec
    cases he
  case sliceBegin =>
    rintro rfl
    cases hexec
    cases he
  case stripEnd =>
    rintro rfl
    rw [exec_stripEnd, State.unlessLatched_of_not_err herr] at hexec
    cases hexec
    exact hnone he
  case stripBegin =>
    rintro rfl
    cases (execStripBegin_of_not_err herr).symm.trans hexec
    exact State.beginStrip_kind herr he
  case decode =>
    rintro rfl hterm
    cases (execDecode_of_not_err herr).symm.trans hexec
    exact State.decodeRows_kind herr hterm he
  case loadTables =>
    rintro rfl
    cases (execLoadJpegTables_of_not_err herr).symm.trans hexec
    exact State.loadTables_kind herr he
  case upsample =>
    rintro rfl
    cases (execUpsampleYcbcr_of_not_err herr).symm.trans hexec
    exact State.upsample_kind herr he

end Sys2Proof.Machine

/-! Encodings: what is encoded decodes to itself, whatever follows (R80 to R91, R322, R323, R325). -/

namespace Sys2Proof

open Machine (HuffTable)

/-! ### Bit strings -/

/-- The first bit of a code word is the highest of its value. -/
theorem cw_succ_cons (n v : Nat) : cw (n + 1) v = v.testBit n :: cw n v := by
  unfold cw
  rw [List.range_succ_eq_map, List.map_cons, List.map_map]
  refine congrArg₂ List.cons rfl (List.map_congr_left fun i _ => ?_)
  show v.testBit (n + 1 - 1 - (i + 1)) = v.testBit (n - 1 - i)
  congr 1
  omega

theorem natOfBits_cw_of_lt {n v : Nat} (h : v < 2 ^ n) : natOfBits (cw n v) = v := by
  rw [natOfBits_cw, Nat.mod_eq_of_lt h]

theorem BitVec.ofNat_natOfBits_cw {n : Nat} (w : BitVec n) : BitVec.ofNat n (natOfBits (cw n w.toNat)) = w := by
  rw [natOfBits_cw_of_lt w.isLt, BitVec.ofNat_toNat, BitVec.setWidth_eq]

theorem natOfBitsL_reverse (l : List Bool) : natOfBitsL l.reverse = natOfBits l := by
  induction l using List.reverseRecOn with
  | nil => rfl
  | append_singleton l b ih =>
    rw [natOfBits_concat, List.reverse_append, List.reverse_singleton, List.singleton_append, natOfBitsL, ih,
      Nat.add_comm]

theorem fixedBits_append {n : Nat} {bits : List Bool} (h : bits.length = n) (rest : List Bool)
    (f : List Bool → Decoded) : fixedBits n (bits ++ rest) f = f bits := by
  unfold fixedBits
  rw [if_neg (by rw [List.length_append]; omega), List.take_left' h]

/-! ### Command words (R80 to R82) -/

/-- The reserved field above an opcode field is the word. -/
theorem Word.append_fields (w : Word) : (w.extractLsb' 4 28 ++ w.extractLsb' 0 4 : BitVec 32) = w := by
  refine BitVec.eq_of_toNat_eq ?_
  have hw := w.isLt
  rw [BitVec.toNat_append, BitVec.extractLsb'_toNat, BitVec.extractLsb'_toNat, ← Nat.shiftLeft_add_eq_or_of_lt
    (Nat.mod_lt _ (by decide)), Nat.shiftLeft_eq, Nat.shiftRight_eq_div_pow, Nat.shiftRight_zero]
  omega

theorem commandWords_below_sixteen : ∀ n < 16,
    encodeCmd (decodeCmd (BitVec.ofNat 32 n)) = some (BitVec.ofNat 32 n) ∧
      (decodeCmd (BitVec.ofNat 32 n)).WellFormed = true := by
  decide

/-- Settles O24. -/
theorem commandWordsAreTotal : Obligations.CommandWordsAreTotal := by
  intro w
  by_cases h : w.toNat < 16
  · have hw : BitVec.ofNat 32 w.toNat = w := by rw [BitVec.ofNat_toNat, BitVec.setWidth_eq]
    rw [← hw]
    exact commandWords_below_sixteen w.toNat h
  · have hreserved : w.extractLsb' 4 28 ≠ 0 := mt (Word.reservedField_eq_zero_iff w).mp h
    rw [decodeCmd_of_sixteen_le (Nat.not_lt.mp h)]
    exact ⟨congrArg some (Word.append_fields w), decide_eq_true hreserved⟩

theorem decodeCmd_append {r : BitVec 28} {o : BitVec 4} (hr : r ≠ 0) :
    decodeCmd (r ++ o : BitVec 32) = .reservedBits r o := by
  have hfield : (r ++ o : BitVec 32).extractLsb' 4 28 = r := by
    refine BitVec.eq_of_toNat_eq ?_
    have ho := o.isLt
    have hr := r.isLt
    rw [BitVec.extractLsb'_toNat, BitVec.toNat_append, ← Nat.shiftLeft_add_eq_or_of_lt ho, Nat.shiftLeft_eq,
      Nat.shiftRight_eq_div_pow]
    omega
  have hopcode : (r ++ o : BitVec 32).extractLsb' 0 4 = o := by
    refine BitVec.eq_of_toNat_eq ?_
    have ho := o.isLt
    rw [BitVec.extractLsb'_toNat, BitVec.toNat_append, ← Nat.shiftLeft_add_eq_or_of_lt ho, Nat.shiftLeft_eq,
      Nat.shiftRight_zero]
    omega
  unfold decodeCmd
  rw [hfield, hopcode, if_pos hr]

/-- A command's word decodes to it. -/
theorem decodeCmd_encodeCmd {i : Instr} {w : Word} (hwf : i.WellFormed = true) (h : encodeCmd i = some w) :
    decodeCmd w = i := by
  cases i
  case reservedOpc low =>
    cases h
    revert low
    decide
  case reservedBits r o =>
    cases h
    exact decodeCmd_append (of_decide_eq_true hwf)
  all_goals cases h <;> rfl

/-! ### Huffman codes (R322, R323, R325) -/

/-- The codes of a length and the lengths after it begin where that length's codes begin. -/
theorem huffGen_mem (ns : List Nat) : ∀ {l c : Nat} {gen : List (Nat × Nat)} {size code : Nat},
    huffGen ns l c = some gen → (size, code) ∈ gen → l ≤ size ∧ c * 2 ^ (size - l) ≤ code ∧ code < 2 ^ size := by
  induction ns with
  | nil =>
    intro l c gen size code hgen hmem
    cases hgen
    cases hmem
  | cons n ns ih =>
    intro l c gen size code hgen hmem
    unfold huffGen at hgen
    split_ifs at hgen with hspace
    obtain ⟨t, ht, rfl⟩ := Option.map_eq_some_iff.mp hgen
    rcases List.mem_append.mp hmem with hhere | hlater
    · obtain ⟨k, hk, hkeq⟩ := List.mem_map.mp hhere
      cases hkeq
      have hk := List.mem_range.mp hk
      refine ⟨Nat.le_refl _, ?_, by omega⟩
      rw [Nat.sub_self, Nat.pow_zero]
      omega
    · obtain ⟨hsize, hlow, hhigh⟩ := ih ht hlater
      refine ⟨by omega, ?_, hhigh⟩
      calc c * 2 ^ (size - l) ≤ (c + n) * 2 ^ (size - l) := Nat.mul_le_mul_right _ (Nat.le_add_right c n)
        _ = 2 * (c + n) * 2 ^ (size - (l + 1)) := by
          rw [show size - l = size - (l + 1) + 1 by omega, Nat.pow_succ]
          ring
        _ ≤ code := hlow

/-- A walk over the lengths that has taken all but the last `m + 1` bits of a code word ends at its value. -/
theorem huffWalk_cw (hv : List Byte) (ns : List Nat) : ∀ {l c j m k size code : Nat} {gen : List (Nat × Nat)}
    {rest : List Bool}, huffGen ns (l + 1) c = some gen → gen[k]? = some (size, code) → size = l + 1 + m →
    huffWalk hv (huffLimits ns c j) (code / 2 ^ (m + 1)) l (cw (m + 1) code ++ rest) =
      .value (hv.getD (j + k) 0) size := by
  induction ns with
  | nil =>
    intro l c j m k size code gen rest hgen hk
    cases hgen
    cases hk
  | cons n ns ih =>
    intro l c j m k size code gen rest hgen hk hsize
    unfold huffGen at hgen
    split_ifs at hgen with hspace
    obtain ⟨t, ht, rfl⟩ := Option.map_eq_some_iff.mp hgen
    have htaken : 2 * (code / 2 ^ (m + 1)) + (code.testBit m).toNat = code / 2 ^ m := by
      rw [Nat.toNat_testBit, Nat.pow_succ, ← Nat.div_div_eq_div_mul]
      omega
    rw [cw_succ_cons, List.cons_append, huffLimits, huffWalk, htaken]
    by_cases hkn : k < n
    · rw [List.getElem?_append_left (by simpa using hkn)] at hk
      have hkeq : (l + 1, c + k) = (size, code) := by simpa [hkn] using hk
      cases hkeq
      obtain rfl : m = 0 := by omega
      have hn : n ≠ 0 := by omega
      rw [if_neg hn, Nat.pow_zero, Nat.div_one]
      dsimp only
      rw [if_neg (by omega), show j + (c + k) - c = j + k by omega]
    · rw [List.getElem?_append_right (by simpa using hkn), List.length_map, List.length_range] at hk
      obtain ⟨hlonger, hlow, _⟩ := huffGen_mem ns ht (List.mem_of_getElem? hk)
      obtain ⟨m, rfl⟩ : ∃ m', m = m' + 1 := ⟨m - 1, by omega⟩
      have hbeyond : c + n ≤ code / 2 ^ (m + 1) := by
        rw [Nat.le_div_iff_mul_le (Nat.two_pow_pos _)]
        rw [hsize, show l + 1 + (m + 1) - (l + 1 + 1) = m by omega] at hlow
        calc (c + n) * 2 ^ (m + 1) = 2 * (c + n) * 2 ^ m := by rw [Nat.pow_succ]; ring
          _ ≤ code := hlow
      rw [if_pos (by split_ifs <;> dsimp only <;> omega), ih ht hk (by omega), show j + n + (k - n) = j + k by omega]

theorem huffRead_cw {bits : List Nat} {hv : List Byte} {h : HuffTable} {gen : List (Nat × Nat)} {k size code : Nat}
    (rest : List Bool) (hb : buildHuff bits hv = some h) (hgen : huffGen bits 1 0 = some gen)
    (hk : gen[k]? = some (size, code)) : huffRead h (cw size code ++ rest) = .value (hv.getD k 0) size := by
  obtain ⟨_, rfl, hzip⟩ := Machine.buildHuff_some hb
  obtain ⟨hsize, _, hcode⟩ := huffGen_mem bits hgen (List.mem_of_getElem? hk)
  obtain ⟨m, rfl⟩ : ∃ m, size = m + 1 := ⟨size - 1, by omega⟩
  have hwalk := huffWalk_cw h.huffval bits (l := 0) (j := 0) (m := m) (rest := rest) hgen hk (by omega)
  rw [Nat.div_eq_of_lt hcode, Nat.zero_add] at hwalk
  unfold huffRead
  rw [hzip, hwalk]

/-- Settles O54. -/
theorem huffmanDecodesItsCodes : Obligations.HuffmanDecodesItsCodes :=
  fun _ _ _ _ _ _ _ rest _ _ hb hgen hk => huffRead_cw rest hb hgen hk

theorem huffGen_length (ns : List Nat) : ∀ {l c : Nat} {gen : List (Nat × Nat)}, huffGen ns l c = some gen →
    gen.length = ns.sum := by
  induction ns with
  | nil =>
    intro l c gen hgen
    cases hgen
    rfl
  | cons n ns ih =>
    intro l c gen hgen
    unfold huffGen at hgen
    split_ifs at hgen
    obtain ⟨t, ht, rfl⟩ := Option.map_eq_some_iff.mp hgen
    rw [List.length_append, List.length_map, List.length_range, ih ht, List.sum_cons]

/-- The code word of a value that a whole table holds decodes to it. -/
theorem huffRead_huffCode {h : HuffTable} {v : Byte} {u : List Bool} (rest : List Bool) (hok : huffTableOk h = true)
    (hu : huffCode h v = some u) : huffRead h (u ++ rest) = .value v u.length := by
  simp only [huffTableOk, Bool.and_eq_true, decide_eq_true_eq] at hok
  obtain ⟨⟨_, hlen⟩, hb⟩ := hok
  obtain ⟨gen, hgen, p, hp, hcw⟩ : ∃ gen, huffGen h.bits 1 0 = some gen ∧ ∃ p,
      gen[h.huffval.idxOf v]? = some p ∧ cw p.1 p.2 = u := by
    simpa [huffCode, Option.bind_eq_some_iff] using hu
  have hidx : h.huffval.idxOf v < h.huffval.length := by
    rw [hlen, ← huffGen_length h.bits hgen]
    exact (List.getElem?_eq_some_iff.mp hp).1
  rw [← hcw, huffRead_cw rest hb hgen hp, cw_length, List.getD_eq_getElem _ _ hidx, List.getElem_idxOf]

end Sys2Proof

/-! Decoding an encoded instruction, format by format (R80 to R91). -/

namespace Sys2Proof

open Machine (HuffTable)

/-! ### Code words of the tables (R197, R224) -/

/-- A code word that is complete is not changed by the bits after it. -/
theorem matchCode_append {bits : List Bool} (rest : List Bool) : ∀ {cands : List (List Bool × Instr)} {n k : Nat}
    {i : Instr}, matchCode cands n bits = .found i k → matchCode cands n (bits ++ rest) = .found i k := by
  induction bits with
  | nil => intro cands n k i h; cases h
  | cons b bits ih =>
    intro cands n k i h
    rw [List.cons_append]
    unfold matchCode at h ⊢
    dsimp only at h ⊢
    generalize List.filterMap _ cands = next at h ⊢
    cases hfind : next.find? fun p => p.1.isEmpty with
    | some p =>
      rw [hfind] at h
      exact h
    | none =>
      rw [hfind] at h
      dsimp only at h ⊢
      split_ifs at h with hnone
      rw [if_neg hnone]
      exact ih h

/-- Each row of the run codes decodes to itself. -/
theorem matchCode_runCodes (black : Bool) :
    ∀ p ∈ runCodes black, matchCode (runCodes black) 0 p.1 = .found p.2 p.1.length := by
  cases black
  case false => exact List.map_inj_left.mp rfl
  case true => exact List.map_inj_left.mp rfl

/-- Each mode code decodes to itself. -/
theorem matchCode_modeCodes : ∀ p ∈ modeCodes, matchCode modeCodes 0 p.1 = .found p.2 p.1.length :=
  List.map_inj_left.mp rfl

theorem exists_mem_of_codeWord {codes : List (List Bool × Instr)} {i : Instr} {bits : List Bool}
    (h : codeWord codes i = some bits) : (bits, i) ∈ codes := by
  obtain ⟨⟨u, j⟩, hfind, rfl⟩ := Option.map_eq_some_iff.mp h
  have hbeq : (j == i) = true := List.find?_some (p := fun p : List Bool × Instr => p.2 == i) hfind
  obtain rfl : j = i := eq_of_beq hbeq
  exact List.mem_of_find?_eq_some hfind

/-- In a table whose rows decode to themselves, so does each code word with any bits after it. -/
theorem matchCode_codeWord {codes : List (List Bool × Instr)}
    (hcodes : ∀ p ∈ codes, matchCode codes 0 p.1 = .found p.2 p.1.length) {i : Instr} {bits : List Bool}
    (h : codeWord codes i = some bits) (rest : List Bool) :
    matchCode codes 0 (bits ++ rest) = .found i bits.length :=
  matchCode_append rest (hcodes _ (exists_mem_of_codeWord h))

/-! ### Control bytes and markers (R84, R87, R89) -/

theorem decode_packBits_append (c : Byte) (rest : List Bool) :
    decode .packBits (cw 8 c.toNat ++ rest) = .found (packBitsSymbol c) 8 := by
  rw [decode, fixedBits_append (cw_length _ _), BitVec.ofNat_natOfBits_cw]

theorem decode_logLuv_append (c : Byte) (rest : List Bool) :
    decode .logLuv (cw 8 c.toNat ++ rest) = .found (logLuvSymbol c) 8 := by
  rw [decode, fixedBits_append (cw_length _ _), BitVec.ofNat_natOfBits_cw]

theorem packBitsSymbol_literal : ∀ n : BitVec 7, packBitsSymbol (BitVec.ofNat 8 n.toNat) = .pbLiteral n := by
  decide

theorem packBitsSymbol_repeat : ∀ n : BitVec 7, n ≠ 0 →
    packBitsSymbol (BitVec.ofNat 8 (0x80 + n.toNat)) = .pbRepeat n := by
  decide

theorem logLuvSymbol_literal : ∀ n : BitVec 7, logLuvSymbol (BitVec.ofNat 8 n.toNat) = .logluvLiteral n := by
  decide

theorem logLuvSymbol_run : ∀ n : BitVec 7, logLuvSymbol (BitVec.ofNat 8 (0x80 + n.toNat)) = .logluvRun n := by
  decide

theorem BitVec.ofNat_toNat_of_lt {n v : Nat} (h : v < 2 ^ n) : (BitVec.ofNat n v).toNat = v := by
  rw [BitVec.toNat_ofNat, Nat.mod_eq_of_lt h]

/-- A reserved marker's code byte names it (R339). -/
theorem markerInstr_res {c : BitVec 8} (h2 : 2 ≤ c.toNat) (hBF : c.toNat ≤ 0xBF) :
    markerInstr c = some (.jpegRes c) := by
  unfold markerInstr
  split
  case h_27 => rw [if_pos ⟨h2, hBF⟩]
  all_goals omega

/-- A marker's code byte names it. -/
theorem markerInstr_markerCode {i : Instr} {m : Byte} (hwf : i.WellFormed = true) (h : markerCode i = some m) :
    markerInstr m = some i := by
  cases i
  case jpegRstm n =>
    cases h
    revert n
    decide
  case jpegAppn n =>
    cases h
    revert n
    decide
  case jpegRes c =>
    cases h
    obtain ⟨h2, hBF⟩ := of_decide_eq_true hwf
    exact markerInstr_res h2 hBF
  all_goals cases h <;> rfl

/-! ### The formats -/

/-- What it is for the bits of an instruction to decode to it. -/
def ReadsBack (f : Fmt) (i : Instr) : Prop :=
  ∀ bits rest, encode f i = some bits → decode f (bits ++ rest) = .found i bits.length

theorem readsBack_cmd {i : Instr} (hwf : i.WellFormed = true) : ReadsBack .cmd i := by
  intro bits rest h
  obtain ⟨w, hw, rfl⟩ := Option.map_eq_some_iff.mp h
  rw [decode, fixedBits_append (cw_length _ _), BitVec.ofNat_natOfBits_cw, decodeCmd_encodeCmd hwf hw, cw_length]

theorem readsBack_lzw {old : Bool} {n nextFree : Nat} {hasPrev : Bool} {i : Instr} {c : Nat}
    (hc : lzwCode i = some c) (hlt : c < 2 ^ n) (hsymbol : lzwSymbol nextFree hasPrev c = i) :
    ReadsBack (.lzw old n nextFree hasPrev) i := by
  intro bits rest h
  rw [encode, hc, Option.map_some] at h
  cases old
  case false =>
    rw [if_neg Bool.false_ne_true] at h
    cases h
    rw [decode, fixedBits_append (cw_length _ _), if_neg Bool.false_ne_true, natOfBits_cw_of_lt hlt, hsymbol,
      cw_length]
  case true =>
    rw [if_pos rfl] at h
    cases h
    have hlength : (cw n c).reverse.length = n := by rw [List.length_reverse, cw_length]
    rw [decode, fixedBits_append hlength, if_pos rfl, natOfBitsL_reverse, natOfBits_cw_of_lt hlt, hsymbol, hlength]

theorem readsBack_packBits {i : Instr} (hwf : i.WellFormed = true) : ReadsBack .packBits i := by
  have hbyte (c : Nat) (hc : c < 256) (rest : List Bool) :
      decode .packBits (cw 8 c ++ rest) = .found (packBitsSymbol (BitVec.ofNat 8 c)) (cw 8 c).length := by
    rw [cw_length, ← decode_packBits_append _ rest, BitVec.ofNat_toNat_of_lt hc]
  intro bits rest h
  cases i
  case pbLiteral n =>
    cases h
    rw [hbyte _ (by omega), packBitsSymbol_literal]
  case pbNop =>
    cases h
    exact hbyte _ (by decide) rest
  case pbRepeat n =>
    cases h
    rw [hbyte _ (by omega), packBitsSymbol_repeat n (of_decide_eq_true hwf)]
  all_goals cases h

theorem readsBack_logLuv (i : Instr) : ReadsBack .logLuv i := by
  have hbyte (c : Nat) (hc : c < 256) (rest : List Bool) :
      decode .logLuv (cw 8 c ++ rest) = .found (logLuvSymbol (BitVec.ofNat 8 c)) (cw 8 c).length := by
    rw [cw_length, ← decode_logLuv_append _ rest, BitVec.ofNat_toNat_of_lt hc]
  intro bits rest h
  cases i
  case logluvLiteral n =>
    cases h
    rw [hbyte _ (by omega), logLuvSymbol_literal]
  case logluvRun n =>
    cases h
    rw [hbyte _ (by omega), logLuvSymbol_run]
  all_goals cases h

theorem readsBack_mhRun (black : Bool) (i : Instr) : ReadsBack (.mhRun black) i :=
  fun _ rest h => matchCode_codeWord (matchCode_runCodes black) h rest

theorem readsBack_readMode (i : Instr) : ReadsBack .readMode i :=
  fun _ rest h => matchCode_codeWord matchCode_modeCodes h rest

theorem readsBack_eol (i : Instr) : ReadsBack .eol i := by
  intro bits rest h
  rw [encode] at h
  split_ifs at h with hi
  cases h
  subst hi
  rfl

theorem readsBack_tag (i : Instr) : ReadsBack .tag i := by
  intro bits rest h
  cases i
  case g3Tag t =>
    cases h
    rw [decode, fixedBits_append (cw_length _ _), BitVec.ofNat_natOfBits_cw, cw_length]
  all_goals cases h

theorem readsBack_marker {i : Instr} (hwf : i.WellFormed = true) : ReadsBack .marker i := by
  intro bits rest h
  obtain ⟨m, hm, rfl⟩ := Option.map_eq_some_iff.mp h
  have hlength : (cw 8 0xFF ++ cw 8 m.toNat).length = 16 := by rw [List.length_append, cw_length, cw_length]
  rw [decode, fixedBits_append hlength, List.take_left' (cw_length _ _), List.drop_left' (cw_length _ _),
    natOfBits_cw_of_lt (by decide), if_pos rfl, BitVec.ofNat_natOfBits_cw, markerInstr_markerCode hwf hm, hlength]

theorem readsBack_stuff (i : Instr) : ReadsBack .stuff i := by
  intro bits rest h
  rw [encode] at h
  split_ifs at h with hi
  cases h
  rw [decode, fixedBits_append (cw_length _ _), natOfBits_cw_of_lt (by decide), if_pos rfl, hi, cw_length]

theorem readsBack_zlib (i : Instr) : ReadsBack .zlib i := by
  intro bits rest h
  rw [encode] at h
  split_ifs at h with hi
  cases h
  rw [hi]
  rfl

/-- The magnitude bits after a code word of `n` bits, and what follows them. -/
theorem magnitude_append {u : List Bool} {n : Nat} {v : BitVec 16} (h : v.toNat < 2 ^ n) (rest : List Bool) :
    ¬(u ++ cw n v.toNat ++ rest).length < u.length + n ∧
      BitVec.ofNat 16 (natOfBits (((u ++ cw n v.toNat ++ rest).drop u.length).take n)) = v := by
  refine ⟨?_, ?_⟩
  · rw [List.length_append, List.length_append, cw_length]
    omega
  · rw [List.append_assoc, List.drop_left, List.take_left' (cw_length _ _), natOfBits_cw_of_lt h,
      BitVec.ofNat_toNat, BitVec.setWidth_eq]

theorem readsBack_dcSymbol {h : HuffTable} {t : Byte} {v : BitVec 16} (hok : huffTableOk h = true)
    (hv : v.toNat < 2 ^ dcMagBits t) : ReadsBack (.dcSymbol h) (.jpegDcSymbol t v) := by
  intro bits rest henc
  obtain ⟨u, hu, rfl⟩ := Option.map_eq_some_iff.mp henc
  obtain ⟨hlong, hmag⟩ := magnitude_append (u := u) hv rest
  have hread : huffRead h (u ++ cw (dcMagBits t) v.toNat ++ rest) = .value t u.length := by
    rw [List.append_assoc]
    exact huffRead_huffCode _ hok hu
  rw [decode, hread]
  dsimp only
  rw [if_neg hlong, hmag, List.length_append, cw_length]

theorem readsBack_acSymbol {h : HuffTable} {k : Nat} {rs : Byte} {v : BitVec 16} (hok : huffTableOk h = true)
    (hv : v.toNat < 2 ^ acMagBits rs k) : ReadsBack (.acSymbol h k) (.jpegAcSymbol rs v) := by
  intro bits rest henc
  obtain ⟨u, hu, rfl⟩ := Option.map_eq_some_iff.mp henc
  obtain ⟨hlong, hmag⟩ := magnitude_append (u := u) hv rest
  have hread : huffRead h (u ++ cw (acMagBits rs k) v.toNat ++ rest) = .value rs u.length := by
    rw [List.append_assoc]
    exact huffRead_huffCode _ hok hu
  rw [decode, hread]
  dsimp only
  rw [if_neg hlong, hmag, List.length_append, cw_length]

/-- What `fits` asks of every format. -/
theorem wellFormed_of_fits {f : Fmt} {i : Instr} (h : fits f i = true) :
    i.WellFormed = true ∧ ∃ bits, encode f i = some bits := by
  unfold fits at h
  rw [Bool.and_eq_true, Bool.and_eq_true] at h
  obtain ⟨⟨hwf, hsome⟩, _⟩ := h
  exact ⟨hwf, Option.isSome_iff_exists.mp hsome⟩

theorem readsBack_of_fits {f : Fmt} {i : Instr} (h : fits f i = true) : ReadsBack f i := by
  obtain ⟨hwf, bits, henc⟩ := wellFormed_of_fits h
  cases f with
  | cmd => exact readsBack_cmd hwf
  | lzw old n nextFree hasPrev =>
    simp only [fits, Bool.and_eq_true] at h
    obtain ⟨_, _, hcode⟩ := h
    cases hc : lzwCode i with
    | none =>
      rw [hc] at hcode
      cases hcode
    | some c =>
      rw [hc] at hcode
      simp only [Bool.and_eq_true, decide_eq_true_eq] at hcode
      exact readsBack_lzw hc hcode.1 hcode.2
  | packBits => exact readsBack_packBits hwf
  | mhRun black => exact readsBack_mhRun black i
  | eol => exact readsBack_eol i
  | readMode => exact readsBack_readMode i
  | tag => exact readsBack_tag i
  | marker => exact readsBack_marker hwf
  | stuff => exact readsBack_stuff i
  | dcSymbol t =>
    cases i
    case jpegDcSymbol c v =>
      simp only [fits, Bool.and_eq_true, decide_eq_true_eq] at h
      exact readsBack_dcSymbol h.2.1 h.2.2
    all_goals cases henc
  | acSymbol t k =>
    cases i
    case jpegAcSymbol c v =>
      simp only [fits, Bool.and_eq_true, decide_eq_true_eq] at h
      exact readsBack_acSymbol h.2.1 h.2.2
    all_goals cases henc
  | logLuv => exact readsBack_logLuv i
  | zlib => exact readsBack_zlib i

/-- Settles O23. -/
theorem decodeReadsEncode : Obligations.DecodeReadsEncode := by
  intro f i rest h
  obtain ⟨_, bits, henc⟩ := wellFormed_of_fits h
  exact ⟨bits, henc, readsBack_of_fits h bits rest henc⟩

/-- Settles O25. -/
theorem writtenWordsDecode : Obligations.WrittenWordsDecode := by
  unfold Obligations.WrittenWordsDecode
  decide

end Sys2Proof

/-! Host accesses, and what every step of the machine keeps (R22, R60 to R66, R80, R102, R103, R424, R425, R462). -/

namespace Sys2Proof.Machine

open Sys2Proof Host

/-! ### Steps of the host -/

theorem step_command {s : State} {a : HostAccess} {q : List HostAccess} (hfocus : s.focus = .host)
    (hqueue : s.hostQueue = a :: q) (h : a.isCommand = true) :
    step s = exec (decodeCmd a.data) { s with hostQueue := q } := by
  unfold step
  rw [hfocus]
  dsimp only
  rw [hqueue]
  exact if_pos h

theorem step_access {s : State} {a : HostAccess} {q : List HostAccess} (hfocus : s.focus = .host)
    (hqueue : s.hostQueue = a :: q) (h : a.isCommand = false) :
    step s = hostAccess Config.params a { s with hostQueue := q } := by
  unfold step
  rw [hfocus]
  dsimp only
  rw [hqueue]
  exact if_neg (by rw [h]; exact Bool.false_ne_true)

theorem step_idle {s : State} (hfocus : s.focus = .host) (hqueue : s.hostQueue = []) : step s = .next s := by
  unfold step
  rw [hfocus]
  dsimp only
  rw [hqueue]

theorem hostAccess_of_admitted {P : Params} {a : HostAccess} (s : State) (hadm : a.admitted = true)
    (hin : a.inSpace P = true) : hostAccess P a s = .next (s.access a) := by
  simp [hostAccess, hadm, hin]

theorem isCommand_of_read {a : HostAccess} (h : a.write = false) : a.isCommand = false := by
  simp [HostAccess.isCommand, h]

theorem isCommand_of_off {a : HostAccess} (h : a.off ≠ 0) : a.isCommand = false := by
  simp [HostAccess.isCommand, h]

theorem isCommand_of_space {a : HostAccess} (h : a.space ≠ .reg) : a.isCommand = false := by
  simp [HostAccess.isCommand, h]

theorem isCommand_of_width {a : HostAccess} (h : a.width ≠ 32) : a.isCommand = false := by
  simp [HostAccess.isCommand, h]

/-- A step whose access is admitted and is no command has the access's effect. -/
theorem step_admitted {s : State} {a : HostAccess} {q : List HostAccess} (hfocus : s.focus = .host)
    (hqueue : s.hostQueue = a :: q) (hcmd : a.isCommand = false) (hadm : a.admitted = true)
    (hin : a.inSpace Config.params = true) : step s = .next ({ s with hostQueue := q }.access a) := by
  rw [step_access hfocus hqueue hcmd, hostAccess_of_admitted _ hadm hin]

/-! ### Register accesses (R22, R23, R65) -/

theorem RegName.offset_place (n : RegName) : n.offset % 4 = 0 ∧ n.offset < 0x1000 ∧ n.offset ≠ 0 := by
  cases n <;> decide

/-- A register that is not read-only reads as the register named. -/
theorem readReg_offset (s : State) (n : RegName) : s.readReg n.offset = s.regs.read n := by
  cases n <;> rfl

theorem writeReg_offset (s : State) (n : RegName) (v : Word) :
    s.writeReg n.offset v = { s with regs := s.regs.write n v } := by
  unfold State.writeReg
  rw [RegName.ofOffset?_offset]

/-- Settles O16. -/
theorem registerWriteStores : Obligations.RegisterWriteStores := by
  intro s n v q hfocus hqueue
  obtain ⟨halign, hin, hne⟩ := n.offset_place
  refine ⟨_, step_admitted hfocus hqueue (isCommand_of_off hne) ?_ (decide_eq_true hin), ?_⟩
  · simp [HostAccess.admitted, HostAccess.writeReg, halign]
  · have haccess : State.access { s with hostQueue := q } (HostAccess.writeReg n v) =
        { s with hostQueue := q, regs := s.regs.write n v } := writeReg_offset _ n v
    rw [haccess]
    refine ⟨?_, fun m hm => Regs.get_put_ne _ _ hm, rfl⟩
    rw [readReg_offset]
    show (s.regs.write n v).get n &&& n.mask = v &&& n.mask
    rw [Regs.write, Regs.get_put_same, BitVec.and_assoc, BitVec.and_self]

/-! ### Reads, and the bytes of IN (R62 to R64, R462) -/

/-- Settles O17. -/
theorem readsHaveNoEffect : Obligations.ReadsHaveNoEffect := by
  intro s a q hfocus hqueue hread hadm hin
  rw [step_admitted hfocus hqueue (isCommand_of_read hread) hadm hin]
  unfold State.access
  rw [hread]
  cases a.space <;> rfl

/-- Settles O18. -/
theorem inputLock : Obligations.InputLock := by
  intro s a b q hfocus hqueue ha
  refine ⟨_, step_admitted hfocus hqueue (isCommand_of_space nofun) rfl (decide_eq_true ha), ?_⟩
  have hbyte : (HostAccess.writeIn a b).data.extractLsb' 0 8 = b := by
    refine BitVec.eq_of_toNat_eq ?_
    have hb := b.isLt
    show ((b.setWidth 32).extractLsb' 0 8).toNat = b.toNat
    rw [BitVec.extractLsb'_toNat, BitVec.toNat_setWidth, Nat.shiftRight_zero]
    omega
  by_cases hactive : s.stripActive = true
  · have haccess : State.access { s with hostQueue := q } (HostAccess.writeIn a b) = { s with hostQueue := q } :=
      if_pos hactive
    rw [haccess, if_pos hactive]
    exact ⟨rfl, fun _ _ => rfl, rfl, fun _ => rfl⟩
  · have haccess : State.access { s with hostQueue := q } (HostAccess.writeIn a b) =
        { s with hostQueue := q, inMem := memSet s.inMem a b } := by
      refine (if_neg hactive).trans ?_
      rw [hbyte]
      rfl
    rw [haccess, if_neg hactive]
    refine ⟨?_, fun x hx => ?_, rfl, fun h => absurd h hactive⟩
    · show (memGet (memSet s.inMem a b) a).getD _ = b
      rw [memGet_memSet_same]
      rfl
    · show (memGet (memSet s.inMem a b) x).getD _ = s.readIn x
      rw [memGet_memSet_ne _ _ hx]
      rfl

/-- Settles O19. -/
theorem otherAccesses : Obligations.OtherAccesses := by
  refine fun s a q hfocus hqueue => ⟨fun hwrite hadm hin hplace => ?_, fun hbad => ?_, fun hadm hout => ?_⟩
  · rcases hplace with hspace | ⟨hspace, hoff, hnone⟩
    · rw [step_admitted hfocus hqueue (isCommand_of_space (by rw [hspace]; exact nofun)) hadm hin]
      unfold State.access
      rw [hspace, hwrite]
    · rw [step_admitted hfocus hqueue (isCommand_of_off hoff) hadm hin]
      unfold State.access State.writeReg
      rw [hspace, hwrite]
      dsimp only
      rw [hnone]
  · have hadm : a.admitted = false := by
      unfold HostAccess.admitted
      rcases hbad with ⟨hspace, hwidth⟩ | ⟨hspace, hwidth⟩
      · rw [hspace]
        dsimp only
        rw [Bool.and_eq_false_iff, decide_eq_false_iff_not, decide_eq_false_iff_not]
        exact hwidth
      · cases h : a.space with
        | reg => exact absurd h hspace
        | inBuf => exact decide_eq_false hwidth
        | outBuf => exact decide_eq_false hwidth
    have hcmd : a.isCommand = false := by
      rcases hbad with ⟨_, hwidth | halign⟩ | ⟨hspace, _⟩
      · exact isCommand_of_width hwidth
      · exact isCommand_of_off (by omega)
      · exact isCommand_of_space hspace
    rw [step_access hfocus hqueue hcmd]
    simp [hostAccess, hadm]
  · have hin : a.inSpace Config.params = false := by
      unfold HostAccess.inSpace
      rcases hout with ⟨hspace, hoff⟩ | ⟨hspace, hoff⟩ | ⟨hspace, hoff⟩ <;> rw [hspace] <;>
        exact decide_eq_false (Nat.not_lt.mpr hoff)
    have hcmd : a.isCommand = false := by
      rcases hout with ⟨_, hoff⟩ | ⟨hspace, _⟩ | ⟨hspace, _⟩
      · exact isCommand_of_off (by omega)
      · exact isCommand_of_space (by rw [hspace]; exact nofun)
      · exact isCommand_of_space (by rw [hspace]; exact nofun)
    rw [step_access hfocus hqueue hcmd]
    simp [hostAccess, hadm, hin]

/-! ### Commands written to CMD (R24, R66, R80) -/

theorem tableFmt_command (w : Nat) : tableFmt 32 w = some (.cmd, cw 32 w) := rfl

theorem withFetchWord_command (s : State) (w : Word) : s.withFetchWord 32 w.toNat = s.withCommand w := by
  unfold State.withFetchWord
  rw [tableFmt_command]
  dsimp only
  rw [BitVec.ofNat_toNat, BitVec.setWidth_eq]

/-- Settles O20. -/
theorem stepRunsTheCommand : Obligations.StepRunsTheCommand := by
  refine ⟨fun s w q hfocus hqueue => step_command hfocus hqueue rfl, fun s w => ?_⟩
  rw [withFetchWord_command]
  exact step_command rfl (s.withCommand_hostQueue w) rfl

end Sys2Proof.Machine

/-! What every step of the machine keeps: the JPEG tables (R44, R317, R318, R340) and the invariant of the block's
states (R22, R60, R102 to R104, R424, R425). -/

namespace Sys2Proof.Machine

open Sys2Proof Host

/-! ### Everything a step can do -/

/-- What a command makes of the state: nothing, RESET and SLICE_BEGIN always, the others while no error is latched. -/
inductive State.Runs (s : State) : State → Prop where
  | nothing : s.Runs s
  | reset : s.Runs s.resetBlock
  | sliceBegin : s.Runs s.beginSlice
  | stripBegin (herr : s.err = false) : s.Runs (s.beginStrip Config.params)
  | decode (herr : s.err = false) : s.Runs (s.decodeRows Config.params)
  | loadTables (herr : s.err = false) : s.Runs (s.loadTables Config.params)
  | upsample (herr : s.err = false) : s.Runs (s.upsample Config.params)
  | stripEnd (herr : s.err = false) : s.Runs s.dropStrip
  | fails (herr : s.err = false) (k : ErrKind) : s.Runs (s.raiseOther k)

/-- A command that is not admitted does nothing. -/
theorem State.Runs.unlessLatched {s : State} {f : State → State} (h : s.err = false → s.Runs (f s)) :
    s.Runs (s.unlessLatched f) := by
  cases herr : s.err with
  | true =>
    rw [State.unlessLatched_of_err herr]
    exact .nothing
  | false =>
    rw [State.unlessLatched_of_not_err herr]
    exact h herr

theorem exec_command {i : Instr} {w : Word} {s t : State} (hi : encodeCmd i = some w) (h : exec i s = .next t) :
    s.Runs t := by
  cases i
  case nop => cases h; exact .nothing
  case reset => cases h; exact .reset
  case sliceBegin => cases h; exact .sliceBegin
  case stripBegin => cases h; exact .unlessLatched .stripBegin
  case decode => cases h; exact .unlessLatched .decode
  case loadJpegTables => cases h; exact .unlessLatched .loadTables
  case upsampleYcbcr => cases h; exact .unlessLatched .upsample
  case stripEnd => cases h; exact .unlessLatched .stripEnd
  case reservedOpc low => cases h; exact .unlessLatched (.fails · _)
  case reservedBits r o => cases h; exact .unlessLatched (.fails · _)
  all_goals cases hi

/-- A step: nothing, an access of the host, a command, the end of a DECODE's inside, or a step of the unit. -/
inductive State.StepsTo (s : State) : State → Prop where
  | idle : s.StepsTo s
  | access (a : HostAccess) (q : List HostAccess) (hin : a.inSpace Config.params = true) :
      s.StepsTo ({ s with hostQueue := q }.access a)
  | command (q : List HostAccess) {t : State} (h : State.Runs { s with hostQueue := q } t) : s.StepsTo t
  | focus : s.StepsTo { s with focus := .host }
  | unit {st : StripState} (h : UnitResult s.strip st) : s.StepsTo { s with strip := st }

theorem stepsTo_of_step {s t : State} (h : step s = .next t) : s.StepsTo t := by
  cases hfocus : s.focus with
  | host =>
    cases hqueue : s.hostQueue with
    | nil =>
      cases (step_idle hfocus hqueue).symm.trans h
      exact .idle
    | cons a q =>
      cases hcmd : a.isCommand with
      | true =>
        rw [step_command hfocus hqueue hcmd] at h
        obtain ⟨hword, _⟩ := commandWordsAreTotal a.data
        exact .command q (exec_command hword h)
      | false =>
        rw [step_access hfocus hqueue hcmd] at h
        obtain ⟨_, hin, rfl⟩ := hostAccess_next h
        exact .access a q hin
  | unit =>
    by_cases hended : s.stripActive = true ∧ s.strip.term = none
    · obtain ⟨hactive, hterm⟩ := hended
      obtain ⟨hunit, _⟩ := unitSteps s hterm
      obtain ⟨st, hstep, hresult⟩ := unitStep_result hterm
      cases ((hunit hfocus hactive).trans hstep).symm.trans h
      exact .unit hresult
    · have hcond : (!s.stripActive || s.strip.term.isSome) = true := by
        rw [not_and_or, Bool.not_eq_true, ← Ne, Option.ne_none_iff_isSome] at hended
        rcases hended with hactive | hterm
        · rw [hactive]; rfl
        · rw [hterm, Bool.or_true]
      unfold step at h
      rw [hfocus] at h
      dsimp only at h
      rw [if_pos hcond] at h
      cases h
      exact .focus

/-! ### The JPEG tables -/

/-- Only the tables and the strip count. -/
theorem State.TablesWf.congr {s t : State} (h : s.TablesWf) (htables : t.tables = s.tables)
    (hstrip : t.strip = s.strip) : t.TablesWf := by
  unfold State.TablesWf at h ⊢
  rwa [htables, hstrip]

theorem State.TablesWf.raiseOther {s : State} (h : s.TablesWf) (k : ErrKind) : (s.raiseOther k).TablesWf :=
  h.congr (State.raise_tables _ _ _ _) (State.raise_strip _ _ _ _)

/-- Where there is no JPEG strip its tables are no matter. -/
theorem StripState.reset_tablesWf : StripState.reset.TablesWf := fun _ hj => CodecState.noConfusion hj

/-- A JPEG strip begins with the slice's tables (R340). -/
theorem StripState.init_tablesWf {L : Latched} (lin : List Byte) {T : JpegTables} (h : T.Wf) :
    (StripState.init L lin T).TablesWf := by
  intro j hj
  unfold StripState.init CodecState.init at hj
  dsimp only at hj
  split at hj <;> cases hj
  exact h

theorem State.TablesWf.beginStrip {s : State} (h : s.TablesWf) (P : Params) : (s.beginStrip P).TablesWf := by
  rcases s.beginStrip_cases P with heq | ⟨k, _, heq⟩ | ⟨_, _, heq⟩ <;> rw [heq]
  · exact h.raiseOther _
  · exact State.TablesWf.raiseOther (s := s.endStrip) h k
  · exact ⟨h.1, StripState.init_tablesWf _ h.1⟩

theorem State.TablesWf.decodeRows {s : State} (h : s.TablesWf) (P : Params) : (s.decodeRows P).TablesWf := by
  rcases s.decodeRows_cases P with ⟨_, heq⟩ | ⟨_, heq⟩ | ⟨_, heq⟩ | ⟨hfits, hlen⟩
  · rw [heq]
    exact h.congr (State.raise_tables _ _ _ _) (State.raise_strip _ _ _ _)
  · rw [heq]
    exact h.congr (State.raise_tables _ _ _ _) (State.raise_strip _ _ _ _)
  · rw [heq]
    exact h.congr (State.raise_tables _ _ _ _) (State.raise_strip _ _ _ _)
  · rw [State.decodeRows_delivers hfits hlen]
    exact ⟨h.1, State.stripUntil_tablesWf _ h.2⟩

theorem State.TablesWf.loadTables {s : State} (h : s.TablesWf) (P : Params) : (s.loadTables P).TablesWf := by
  rcases s.loadTables_cases P with ⟨k, heq, _⟩ | ⟨_, lin, T, hparse, heq⟩ <;> rw [heq]
  · exact h.raiseOther k
  · exact ⟨State.parseTables_wf h.1 hparse, h.2⟩

theorem State.TablesWf.upsample {s : State} (h : s.TablesWf) (P : Params) : (s.upsample P).TablesWf := by
  rcases s.upsample_cases P with heq | ⟨k, _, heq⟩ | ⟨_, heq⟩ | ⟨_, _, heq⟩ <;> rw [heq]
  · exact h.raiseOther _
  · exact h.raiseOther k
  · exact State.TablesWf.raiseOther (s := s.spoilOut _) h _
  · exact h

theorem State.Runs.tablesWf {s t : State} (h : s.Runs t) (hs : s.TablesWf) : t.TablesWf := by
  cases h with
  | nothing => exact hs
  | reset => exact ⟨JpegTables.reset_wf, StripState.reset_tablesWf⟩
  | sliceBegin => exact ⟨JpegTables.reset_wf, StripState.reset_tablesWf⟩
  | stripBegin => exact hs.beginStrip _
  | decode => exact hs.decodeRows _
  | loadTables => exact hs.loadTables _
  | upsample => exact hs.upsample _
  | stripEnd => exact ⟨hs.1, StripState.reset_tablesWf⟩
  | fails _ k => exact hs.raiseOther k

/-- Settles O56: over the steps there are; a unit's step keeps a JPEG strip's tables by `UnitResult.tablesWf`. -/
theorem jpegTablesKept : Obligations.JpegTablesKept := by
  refine ⟨⟨JpegTables.reset_wf, StripState.reset_tablesWf⟩, fun s t hs hstep => ?_⟩
  cases stepsTo_of_step hstep with
  | idle => exact hs
  | access a q _ => exact hs.congr (State.access_tables _ a) (State.access_strip _ a)
  | command q h => exact h.tablesWf hs
  | focus => exact hs
  | unit h => exact ⟨hs.1, h.tablesWf hs.2⟩

/-! ### The invariant of the block's states -/

theorem Regs.Clean.write {r : Regs} (h : r.Clean) (n : RegName) (v : Word) : (r.write n v).Clean := by
  intro m
  unfold Regs.write
  by_cases hm : m = n
  · rw [hm, Regs.get_put_same, BitVec.and_assoc, BitVec.and_not_self]
    exact BitVec.and_zero
  · rw [Regs.get_put_ne _ _ hm, h m]

theorem State.reset_inv : State.reset.Inv where
  regs n := by cases n <;> rfl
  inMem := rfl
  outMem := rfl
  outLen := Nat.zero_le _
  latched := nofun
  inSlice := nofun
  lzwOld := nofun

/-- Settles O60. -/
theorem invariantAtReset : Obligations.InvariantAtReset := State.reset_inv

theorem State.Inv.raise {s : State} (h : s.Inv) (k : ErrKind) (r t : Word) : (s.raise k r t).Inv := by
  unfold State.raise
  split
  · exact h
  · exact { h with latched := fun _ => ⟨rfl, rfl⟩, inSlice := nofun }

/-- With no error latched a result that fits in OUT may be delivered. -/
theorem State.Inv.deliver {s : State} (h : s.Inv) (herr : s.err = false) {b : List Byte}
    (hb : b.length ≤ Config.params.maxOutBytes) : (s.deliver b).Inv :=
  { h with
    outMem := memWf_memWrite b _ 0 (by rwa [Nat.zero_add]) h.outMem
    outLen := (BitVec.toNat_ofNat _ _ ▸ Nat.mod_le _ _).trans hb
    latched := fun hlatch => absurd (herr.symm.trans hlatch) nofun }

theorem State.Inv.spoilOut {s : State} (h : s.Inv) {n : Nat} (hn : n ≤ Config.params.maxOutBytes) :
    (s.spoilOut n).Inv :=
  { h with
    outMem := memWf_memWrite _ _ 0 (by rwa [Nat.zero_add, List.length_map, List.length_range]) h.outMem
    latched := fun hlatch => ⟨(h.latched hlatch).1, rfl⟩ }

theorem State.Inv.endStrip {s : State} (h : s.Inv) : s.endStrip.Inv :=
  { h with
    latched := fun hlatch => ⟨rfl, (h.latched hlatch).2⟩
    inSlice := nofun
    lzwOld := nofun }

theorem State.Inv.beginStrip {s : State} (h : s.Inv) (herr : s.err = false) (P : Params) : (s.beginStrip P).Inv := by
  rcases s.beginStrip_cases P with heq | ⟨k, _, heq⟩ | ⟨hslice, _, heq⟩ <;> rw [heq]
  · exact h.raise _ _ _
  · exact h.endStrip.raise _ _ _
  · exact { h with
      latched := fun hlatch => absurd (herr.symm.trans hlatch) nofun
      inSlice := fun _ => hslice
      lzwOld := fun _ => hslice }

theorem State.Inv.decodeRows {s : State} (h : s.Inv) (herr : s.err = false) :
    (s.decodeRows Config.params).Inv := by
  rcases s.decodeRows_cases Config.params with ⟨_, heq⟩ | ⟨_, heq⟩ | ⟨hfits, heq⟩ | ⟨hfits, hlen⟩
  · rw [heq]
    exact h.raise _ _ _
  · rw [heq]
    exact h.raise _ _ _
  · rw [heq]
    exact (h.spoilOut hfits.out).raise _ _ _
  · rw [State.decodeRows_delivers hfits hlen]
    exact { h.deliver herr ((State.requested_length hlen).le.trans hfits.out) with }

theorem State.Inv.loadTables {s : State} (h : s.Inv) (P : Params) : (s.loadTables P).Inv := by
  rcases s.loadTables_cases P with ⟨k, heq, _⟩ | ⟨_, lin, T, _, heq⟩ <;> rw [heq]
  · exact h.raise _ _ _
  · exact { h with }

/-- The checks of UPSAMPLE_YCBCR let no image pass that OUT cannot hold (R386). -/
theorem upsampleChecks_size {P : Params} {r : Regs} (h : firstFailure (upsampleChecks P r) = none) :
    3 * r.upsampling.w * r.upsampling.h ≤ P.maxOutBytes := by
  have hheight := firstFailure_eq_none.mp h
    (decide (1 ≤ r.upsampling.h ∧ 3 * r.upsampling.w * r.upsampling.h ≤ P.maxOutBytes), .height)
    (by simp [upsampleChecks])
  exact (of_decide_eq_true hheight).2

theorem State.Inv.upsample {s : State} (h : s.Inv) (herr : s.err = false) : (s.upsample Config.params).Inv := by
  rcases s.upsample_cases Config.params with heq | ⟨k, _, heq⟩ | ⟨hk, heq⟩ | ⟨_, hk, heq⟩ <;> rw [heq]
  · exact h.raise _ _ _
  · exact h.raise _ _ _
  · exact (h.spoilOut (upsampleChecks_size hk)).raise _ _ _
  · exact h.deliver herr ((Upsampling.image_length _ _ _).le.trans (upsampleChecks_size hk))

theorem State.Inv.beginSlice {s : State} (h : s.Inv) : s.beginSlice.Inv :=
  { h with
    outLen := Nat.zero_le _
    latched := nofun
    inSlice := nofun
    lzwOld := nofun }

theorem State.Inv.access {s : State} (h : s.Inv) {a : HostAccess} (hin : a.inSpace Config.params = true) :
    (s.access a).Inv := by
  unfold State.access
  split
  case h_1 =>
    unfold State.writeReg
    split
    · exact { h with regs := h.regs.write _ _ }
    · exact h
  case h_3 hspace _ =>
    split
    · exact h
    · unfold HostAccess.inSpace at hin
      rw [hspace] at hin
      exact { h with inMem := memWf_memSet _ _ (of_decide_eq_true hin) h.inMem }
  case h_5 => exact h
  all_goals exact { h with }

theorem State.Runs.inv {s t : State} (h : s.Runs t) (hs : s.Inv) : t.Inv := by
  cases h with
  | nothing => exact hs
  | reset => exact { State.reset_inv with }
  | sliceBegin => exact hs.beginSlice
  | stripBegin herr => exact hs.beginStrip herr _
  | decode herr => exact hs.decodeRows herr
  | loadTables => exact hs.loadTables _
  | upsample herr => exact hs.upsample herr
  | stripEnd => exact { hs.endStrip with }
  | fails _ k => exact hs.raise _ _ _

/-- Settles O59: over the steps there are. -/
theorem invariantKept : Obligations.InvariantKept := by
  intro s t hs hstep
  cases stepsTo_of_step hstep with
  | idle => exact hs
  | access a q hin => exact State.Inv.access (s := { s with hostQueue := q }) { hs with } hin
  | command q h => exact h.inv { hs with }
  | focus => exact { hs with }
  | unit h => exact { hs with }

end Sys2Proof.Machine

/-! Deflate, LogLuv rows and the chroma upsampler (R283 to R286, R290, R292, R381, R382, R385, R388, R389, R410,
R412; log 6, log 20, log 37, log 38). -/

namespace Sys2Proof.Machine

open Sys2Proof Host

/-! ### Deflate (R410, R412) -/

/-- The empty input is no zlib stream. -/
theorem zlibStep_nil {P : Params} {st : StripState} (h : st.lin = []) : zlibStep P st = st.fail .inflate := by
  have hemit : st.emit [] = st := by
    rw [StripState.emit, List.append_nil]
  unfold zlibStep
  rw [h]
  show (st.emit []).stop _ = _
  rw [hemit]
  rfl

/-- The shortest part of the input on which the primitive ends. -/
theorem exists_least_inflate {P : Params} {z : List Byte} (h : (inflate P z).2 = true) :
    ∃ n ≤ z.length, (inflate P (z.take n)).2 = true ∧ ∀ k < n, (inflate P (z.take k)).2 = false := by
  have hex : ∃ n, (inflate P (z.take n)).2 = true := ⟨z.length, by rwa [List.take_length]⟩
  refine ⟨Nat.find hex, Nat.find_min' hex (by rwa [List.take_length]), Nat.find_spec hex, fun k hk => ?_⟩
  exact Bool.not_eq_true _ ▸ Nat.find_min hex hk

/-- Settles O32. -/
theorem zlibStreamInflates : Obligations.ZlibStreamInflates := by
  refine ⟨fun s hterm hcodec => ?_, fun P z h => ?_⟩
  · have hexec := exec_zlibStream hterm hcodec
    rw [zlibStep_eq] at hexec
    refine ⟨hexec, fun hlin => ?_⟩
    rw [exec_zlibStream hterm hcodec, zlibStep_nil hlin]
    rfl
  · obtain ⟨n, hn, hends, hleast⟩ := exists_least_inflate h
    have hwhole (junk : List Byte) : inflate P (z.take n ++ junk) = inflate P (z.take n) :=
      inflateFrom_append _ junk [] hends
    have hz : inflate P z = inflate P (z.take n) := by
      rw [← hwhole (z.drop n), List.take_append_drop]
    refine ⟨n, Nat.one_le_iff_ne_zero.mpr ?_, hn, fun junk => (hwhole junk).trans hz.symm, fun k hk =>
      ⟨hleast k hk, ?_⟩⟩
    · rintro rfl
      cases hends
    · have hprefix : (inflate P (z.take k)).1 <+: (inflate P (z.take k ++ z.drop k)).1 := inflateFrom_isPrefix _ _ []
      rwa [List.take_append_drop] at hprefix

/-! ### LogLuv runs (R283, R284, R290) -/

/-- Settles O42. -/
theorem logLuvRuns : Obligations.LogLuvRuns := by
  intro s v n hat w fills
  have hrun : exec (.logluvRun n) s =
      .next { s with strip := logLuvRunStep Config.params (0x80 + n.toNat - 126) v s.strip } := hat.onLogLuv_eq _
  have hliteral : exec (.logluvLiteral n) s =
      .next { s with strip := logLuvLiteralStep Config.params n.toNat v s.strip } := hat.onLogLuv_eq _
  have hcopies : 0x80 + n.toNat - 126 = n.toNat + 2 := by omega
  rw [hcopies] at hrun
  refine ⟨fun hnil => ?_, fun b rest hcons => ?_, ?_⟩
  · rw [hrun, logLuvRunStep, hnil]
    rfl
  · rw [hrun, logLuvRunStep, hcons]
    dsimp only
    split_ifs <;> rfl
  · rw [hliteral, logLuvLiteralStep]
    split_ifs <;> rfl

/-! ### Raw LogLuv24 rows and the chrominance search (R283, R285, R286, R292) -/

/-- The word of pixel `i` of a raw row. -/
def rawWord (b : List Byte) (i : Nat) : Nat :=
  (b.getD (3 * i) 0).toNat * 2 ^ 16 + (b.getD (3 * i + 1) 0).toNat * 2 ^ 8 + (b.getD (3 * i + 2) 0).toNat

theorem groups24_take (w : Nat) : ∀ {n : Nat} {b : List Byte}, w ≤ n → 3 * w ≤ b.length →
    rawWords.groups24 n (b.take (3 * w)) = (List.range w).map (rawWord b) := by
  induction w with
  | zero =>
    intro n b _ _
    cases n <;> rfl
  | succ w ih =>
    intro n b hn hlen
    obtain ⟨n, rfl⟩ : ∃ m, n = m + 1 := ⟨n - 1, by omega⟩
    match b, hlen with
    | b0 :: b1 :: b2 :: rest, hlen =>
      simp only [List.length_cons] at hlen
      have htail := ih (n := n) (b := rest) (by omega) (by omega)
      rw [List.range_succ_eq_map, List.map_cons, List.map_map, show 3 * (w + 1) = 3 * w + 1 + 1 + 1 by ring,
        List.take_succ_cons, List.take_succ_cons, List.take_succ_cons, rawWords.groups24, htail]
      refine congrArg₂ List.cons ?_ rfl
      simp [rawWord, Nat.mul_comm]
    | [], hlen => exact absurd hlen (by simp)
    | [_], hlen => exact absurd hlen (by simp; omega)
    | [_, _], hlen => exact absurd hlen (by simp; omega)

theorem rawWords_take {w : Nat} {b : List Byte} (h : 3 * w ≤ b.length) :
    rawWords (b.take (3 * w)) = (List.range w).map (rawWord b) :=
  groups24_take w (by rw [List.length_take]; omega) h

theorem logLuvRow_raw {P : Params} {L : Latched} (h : L.unit? = some .logLuv24) (words : List Nat) :
    logLuvRow P L words = words.flatMap fun p => logLuvRgb P (xyz24 P p) := by
  refine congrArg words.flatMap (funext fun p => ?_)
  simp [logLuvPixel, h]

theorem fetch_rawRow {P : Params} {st : StripState} {v : LogLuvState} (hcodec : st.codec = .logLuv v)
    (hraw : rawRows P st.cfg = true) : fetch P st = .quiet (rawRowStep P st) := by
  unfold fetch fetchLogLuv
  rw [hcodec]
  exact if_pos hraw

/-- The search keeps its row inside the rows that can hold the chrominance. -/
theorem uvSearch_spec {P : Params} {c : Nat} (hrise : ∀ i j, i < j → j < 163 → (P.uvRow i).ncum < (P.uvRow j).ncum)
    (n : Nat) : ∀ {lower upper : Nat}, lower < upper → upper ≤ 163 → upper - lower ≤ n → (P.uvRow lower).ncum ≤ c →
    (∀ j, upper ≤ j → j < 163 → c < (P.uvRow j).ncum) →
    uvSearch P c n lower upper < 163 ∧ (P.uvRow (uvSearch P c n lower upper)).ncum ≤ c ∧
      ∀ j, uvSearch P c n lower upper < j → j < 163 → c < (P.uvRow j).ncum := by
  induction n with
  | zero =>
    intro lower upper hlt _ hn
    omega
  | succ n ih =>
    intro lower upper hlt hupper hn hlow hhigh
    unfold uvSearch
    dsimp only
    split_ifs with hclose hright hleft
    · exact ⟨by omega, hlow, fun j hj => hhigh j (by omega)⟩
    · exact ih (by omega) hupper (by omega) (by omega) hhigh
    · refine ih (by omega) (by omega) (by omega) hlow fun j hj hj163 => ?_
      rcases Nat.eq_or_lt_of_le hj with rfl | hgt
      · omega
      · have := hrise _ j hgt hj163
        omega
    · refine ⟨by omega, by omega, fun j hj hj163 => ?_⟩
      have := hrise _ j hj hj163
      omega

/-- Settles O43. -/
theorem logLuv24RowsAndSearch : Obligations.LogLuv24RowsAndSearch := by
  refine ⟨fun P v st hcodec hraw => ?_, fun P c hrise hlow => ?_⟩
  · intro w byte
    have hunit : st.cfg.unit? = some .logLuv24 := by
      rw [rawRows, Bool.and_eq_true, decide_eq_true_eq] at hraw
      exact hraw.1
    rw [fetch_rawRow hcodec hraw]
    unfold rawRowStep
    dsimp only
    refine congrArg Fetched.quiet (ite_congr rfl (fun _ => rfl) fun _ => ite_congr rfl (fun _ => rfl) fun hlong => ?_)
    rw [rawWords_take (Nat.not_lt.mp hlong), logLuvRow_raw hunit, List.flatMap_map]
    show ({ st with emitted := _, bc := st.bc + 8 * (3 * w) } : StripState) =
      { st with emitted := _, bc := st.bc + 24 * w }
    rw [← Nat.mul_assoc]
    rfl
  · exact uvSearch_spec hrise 163 (by omega) (le_refl 163) (le_refl _) hlow fun j hj hj163 => absurd hj163 (by omega)

/-! ### YCbCr (R381, R382) -/

theorem clampByte_toNat (y : Byte) : clampByte (y.toNat : Int) = y := by
  have hy := y.isLt
  unfold clampByte
  rw [if_neg (by omega), if_neg (by omega), Int.toNat_natCast, BitVec.ofNat_toNat, BitVec.setWidth_eq]

/-- A whole number rounds to itself. -/
theorem roundByte_toNat (y : Byte) : roundByte (y.toNat : Rat) = y := by
  have hfloor : ((y.toNat : Rat) + 1 / 2).floor = (y.toNat : Int) := by
    show ⌊(y.toNat : Rat) + 1 / 2⌋ = _
    rw [Int.floor_eq_iff]
    constructor <;> push_cast <;> linarith
  unfold roundByte
  rw [hfloor, clampByte_toNat]

theorem ratio_ofNat {n d : Nat} (hn : n < 2 ^ 32) (hd : d < 2 ^ 32) :
    ratio (BitVec.ofNat 32 n) (BitVec.ofNat 32 d) = (n : Rat) / d := by
  rw [ratio, BitVec.toNat_ofNat, BitVec.toNat_ofNat, Nat.mod_eq_of_lt hn, Nat.mod_eq_of_lt hd]

/-- The reset coefficients (R23, R380). -/
theorem reset_luma :
    ratio YccCoefs.reset.lumaRNum YccCoefs.reset.lumaRDen = 299 / 1000 ∧
    ratio YccCoefs.reset.lumaGNum YccCoefs.reset.lumaGDen = 587 / 1000 ∧
    ratio YccCoefs.reset.lumaBNum YccCoefs.reset.lumaBDen = 114 / 1000 :=
  ⟨ratio_ofNat (n := 299) (d := 1000) (by decide) (by decide),
    ratio_ofNat (n := 587) (d := 1000) (by decide) (by decide),
    ratio_ofNat (n := 114) (d := 1000) (by decide) (by decide)⟩

theorem reset_rb :
    YccCoefs.reset.rb 0 = 0 ∧ YccCoefs.reset.rb 1 = 255 ∧ YccCoefs.reset.rb 2 = 128 ∧
    YccCoefs.reset.rb 4 = 128 := by
  have hwhole (n : Nat) (hn : n < 2 ^ 32) : ratio (BitVec.ofNat 32 n) (BitVec.ofNat 32 1) = n := by
    rw [ratio_ofNat hn (by decide), Nat.cast_one, div_one]
  exact ⟨hwhole 0 (by decide), hwhole 255 (by decide), hwhole 128 (by decide), hwhole 128 (by decide)⟩

/-- Settles O58: neutral chroma adds nothing to any channel, and the luma weights add up to 1. -/
theorem neutralChromaIsGrey : Obligations.NeutralChromaIsGrey := by
  intro y
  obtain ⟨hlr, hlg, hlb⟩ := reset_luma
  obtain ⟨h0, h1, h2, h4⟩ := reset_rb
  have hneutral : (((128 : Byte).toNat : Nat) : Rat) = 128 := rfl
  unfold ycbcrToRgb
  dsimp only
  rw [hlr, hlg, hlb, h0, h1, h2, h4, hneutral]
  have hluma : ((y.toNat : Rat) - 0) * 255 / (255 - 0) = y.toNat := by ring
  have hgreen : ((y.toNat : Rat) - 114 / 1000 * y.toNat - 299 / 1000 * y.toNat) / (587 / 1000) = y.toNat := by ring
  rw [hluma, sub_self, zero_mul, zero_div, zero_mul, zero_div, zero_mul, zero_add, hgreen,
    roundByte_toNat]

/-! ### Chroma upsampling (R385, R388, R389) -/

/-- A rounded mean lies between the bounds of what it is the mean of. -/
theorem roundDiv_between {d sum lo hi : Nat} (hd : 0 < d) (hlo : lo * d ≤ sum) (hhi : sum ≤ hi * d) :
    lo ≤ (sum + d / 2) / d ∧ (sum + d / 2) / d ≤ hi := by
  refine ⟨(Nat.le_div_iff_mul_le hd).mpr (hlo.trans (Nat.le_add_right _ _)), Nat.le_of_lt_succ ?_⟩
  rw [Nat.div_lt_iff_lt_mul hd, Nat.succ_mul]
  omega

/-- The weighted sum of the chroma at the corners around a pixel (R388). -/
def Upsampling.blend (u : Upsampling) (b : List Byte) (plane : Nat) (ax ay : Nat × Nat × Nat) : Nat :=
  let p := u.chroma b plane
  (2 * u.hs - ax.2.2) * (2 * u.vs - ay.2.2) * p ax.1 ay.1 + ax.2.2 * (2 * u.vs - ay.2.2) * p ax.2.1 ay.1 +
    (2 * u.hs - ax.2.2) * ay.2.2 * p ax.1 ay.2.1 + ax.2.2 * ay.2.2 * p ax.2.1 ay.2.1

theorem Upsampling.up_eq (u : Upsampling) (b : List Byte) (plane x y : Nat) :
    u.up b plane x y =
      BitVec.ofNat 8 ((u.blend b plane (chromaAxis u.posn x u.hs u.nbx) (chromaAxis u.posn y u.vs u.nby) +
        2 * u.hs * (2 * u.vs) / 2) / (2 * u.hs * (2 * u.vs))) := rfl

/-- The corners with a weight bound the weighted sum. -/
theorem Upsampling.blend_between {u : Upsampling} {b : List Byte} {plane lo hi : Nat} {ax ay : Nat × Nat × Nat}
    (hx : ax.2.2 ≤ 2 * u.hs) (hy : ay.2.2 ≤ 2 * u.vs)
    (h : ∀ i ∈ [ax.1, ax.2.1], ∀ j ∈ [ay.1, ay.2.1], lo ≤ u.chroma b plane i j ∧ u.chroma b plane i j ≤ hi) :
    lo * (2 * u.hs * (2 * u.vs)) ≤ u.blend b plane ax ay ∧
      u.blend b plane ax ay ≤ hi * (2 * u.hs * (2 * u.vs)) := by
  obtain ⟨gx, hgx⟩ := Nat.exists_eq_add_of_le hx
  obtain ⟨gy, hgy⟩ := Nat.exists_eq_add_of_le hy
  obtain ⟨⟨laa, haa⟩, lab, hab⟩ : _ ∧ _ := ⟨h ax.1 (by simp) ay.1 (by simp), h ax.1 (by simp) ay.2.1 (by simp)⟩
  obtain ⟨⟨lba, hba⟩, lbb, hbb⟩ : _ ∧ _ := ⟨h ax.2.1 (by simp) ay.1 (by simp), h ax.2.1 (by simp) ay.2.1 (by simp)⟩
  have hweights (k : Nat) : k * (2 * u.hs * (2 * u.vs)) =
      gx * gy * k + ax.2.2 * gy * k + gx * ay.2.2 * k + ax.2.2 * ay.2.2 * k := by
    rw [hgx, hgy]
    ring
  have hx' : 2 * u.hs - ax.2.2 = gx := by omega
  have hy' : 2 * u.vs - ay.2.2 = gy := by omega
  unfold Upsampling.blend
  dsimp only
  rw [hweights, hweights, hx', hy']
  constructor <;> gcongr

theorem Upsampling.up_between {u : Upsampling} {b : List Byte} {plane x y lo hi : Nat} (hhs : 1 ≤ u.hs)
    (hvs : 1 ≤ u.vs) (hhi : hi ≤ 255)
    (h : lo * (2 * u.hs * (2 * u.vs)) ≤
        u.blend b plane (chromaAxis u.posn x u.hs u.nbx) (chromaAxis u.posn y u.vs u.nby) ∧
      u.blend b plane (chromaAxis u.posn x u.hs u.nbx) (chromaAxis u.posn y u.vs u.nby) ≤
        hi * (2 * u.hs * (2 * u.vs))) :
    lo ≤ (u.up b plane x y).toNat ∧ (u.up b plane x y).toNat ≤ hi := by
  have hd : 0 < 2 * u.hs * (2 * u.vs) := Nat.mul_pos (by omega) (by omega)
  obtain ⟨hlo', hhi'⟩ := roundDiv_between hd h.1 h.2
  rw [Upsampling.up_eq, BitVec.ofNat_toNat_of_lt (by omega)]
  exact ⟨hlo', hhi'⟩

/-- The two indices of an axis are inside it, and the weight is below the whole. -/
theorem chromaAxis_bounds (posn x : Nat) {f n : Nat} (hf : 1 ≤ f) (hn : 1 ≤ n) :
    (chromaAxis posn x f n).1 < n ∧ (chromaAxis posn x f n).2.1 < n ∧ (chromaAxis posn x f n).2.2 < 2 * f := by
  have hclamp (i : Int) : clampIndex i n < n := by
    unfold clampIndex
    split_ifs <;> omega
  refine ⟨hclamp _, hclamp _, ?_⟩
  unfold chromaAxis
  dsimp only
  generalize (if posn = 1 then 2 * (x : Int) + 1 - f else 2 * x) = num
  have hpos : (0 : Int) < 2 * f := by omega
  have hmod := Int.emod_lt_of_pos num hpos
  have hmod' := Int.emod_nonneg num hpos.ne'
  omega

theorem chromaAxis_one {posn x n : Nat} (h : x < n) :
    (chromaAxis posn x 1 n).1 = x ∧ (chromaAxis posn x 1 n).2.2 = 0 := by
  have hnum : (if posn = 1 then 2 * (x : Int) + 1 - (1 : Nat) else 2 * x) = 2 * x := by
    split_ifs <;> omega
  unfold chromaAxis clampIndex
  dsimp only
  rw [hnum]
  refine ⟨?_, by omega⟩
  split_ifs <;> omega

/-- Both indices are the first block's at the near end of a doubled, centered axis. -/
theorem chromaAxis_near {n : Nat} (hn : 1 ≤ n) : ∀ i ∈ [(chromaAxis 1 0 2 n).1, (chromaAxis 1 0 2 n).2.1], i = 0 := by
  have hone : clampIndex (-1) n = 0 := rfl
  have hzero : clampIndex 0 n = 0 := by
    unfold clampIndex
    split_ifs <;> omega
  simp only [List.mem_cons, List.not_mem_nil, or_false]
  rintro i (rfl | rfl)
  · exact hone
  · exact hzero

/-- Both indices are the last block's at its far end, where the length is even. -/
theorem chromaAxis_far {w n : Nat} (hw : 1 ≤ w) (heven : w % 2 = 0) (hn : n = ceilDiv w 2) :
    ∀ i ∈ [(chromaAxis 1 (w - 1) 2 n).1, (chromaAxis 1 (w - 1) 2 n).2.1], i = n - 1 := by
  unfold ceilDiv at hn
  simp only [List.mem_cons, List.not_mem_nil, or_false]
  unfold chromaAxis clampIndex
  dsimp only
  rw [if_pos rfl]
  rintro i (rfl | rfl) <;> split_ifs <;> omega

theorem ceilDiv_one (n : Nat) : ceilDiv n 1 = n := by
  unfold ceilDiv
  omega

theorem one_le_ceilDiv {n d : Nat} (hn : 1 ≤ n) (hd : 1 ≤ d) : 1 ≤ ceilDiv n d := by
  unfold ceilDiv
  rw [Nat.le_div_iff_mul_le hd]
  omega

theorem Upsampling.chroma_le (u : Upsampling) (b : List Byte) (plane i j : Nat) : u.chroma b plane i j ≤ 255 :=
  Nat.le_of_lt_succ (BitVec.isLt _)

/-- Where both indices of each axis are one, the sample there is the pixel's. -/
theorem Upsampling.up_corner {u : Upsampling} {b : List Byte} {plane x y i j : Nat} (hhs : 1 ≤ u.hs) (hvs : 1 ≤ u.vs)
    (hw : 1 ≤ u.w) (hh : 1 ≤ u.h)
    (hi : ∀ k ∈ [(chromaAxis u.posn x u.hs u.nbx).1, (chromaAxis u.posn x u.hs u.nbx).2.1], k = i)
    (hj : ∀ k ∈ [(chromaAxis u.posn y u.vs u.nby).1, (chromaAxis u.posn y u.vs u.nby).2.1], k = j) :
    (u.up b plane x y).toNat = u.chroma b plane i j := by
  obtain ⟨_, _, hfx⟩ := chromaAxis_bounds u.posn x hhs (one_le_ceilDiv hw hhs)
  obtain ⟨_, _, hfy⟩ := chromaAxis_bounds u.posn y hvs (one_le_ceilDiv hh hvs)
  obtain ⟨hlo, hhi⟩ := Upsampling.up_between hhs hvs (u.chroma_le b plane i j)
    (Upsampling.blend_between (lo := u.chroma b plane i j) hfx.le hfy.le fun k hk l hl => by
      rw [hi k hk, hj l hl]
      exact ⟨le_rfl, le_rfl⟩)
  omega

/-- Settles O57. -/
theorem chromaUpsampling : Obligations.ChromaUpsampling := by
  refine fun u b plane hw hh => ⟨fun hhs hvs x hx y hy => ?_, fun hhs hvs hposn => ?_,
    fun hhs hvs lo hi h hhi x _ y _ => ?_⟩
  · have hnbx : u.nbx = u.w := by rw [Upsampling.nbx, hhs, ceilDiv_one]
    have hnby : u.nby = u.h := by rw [Upsampling.nby, hvs, ceilDiv_one]
    obtain ⟨hix, hfx⟩ := chromaAxis_one (posn := u.posn) hx
    obtain ⟨hiy, hfy⟩ := chromaAxis_one (posn := u.posn) hy
    have hblend : u.blend b plane (chromaAxis u.posn x u.hs u.nbx) (chromaAxis u.posn y u.vs u.nby) =
        u.chroma b plane x y * (2 * u.hs * (2 * u.vs)) := by
      rw [hnbx, hnby, Upsampling.blend, hhs, hvs, hix, hiy, hfx, hfy]
      ring
    obtain ⟨hlo, hhi⟩ := Upsampling.up_between (x := x) (y := y) hhs.ge hvs.ge (u.chroma_le b plane x y)
      ⟨hblend.ge, hblend.le⟩
    omega
  · have hhs' : 1 ≤ u.hs := by omega
    have hvs' : 1 ≤ u.vs := by omega
    have hnearx : ∀ k ∈ [(chromaAxis u.posn 0 u.hs u.nbx).1, (chromaAxis u.posn 0 u.hs u.nbx).2.1], k = 0 := by
      rw [hposn, hhs]
      exact chromaAxis_near (one_le_ceilDiv hw hhs')
    have hneary : ∀ k ∈ [(chromaAxis u.posn 0 u.vs u.nby).1, (chromaAxis u.posn 0 u.vs u.nby).2.1], k = 0 := by
      rw [hposn, hvs]
      exact chromaAxis_near (one_le_ceilDiv hh hvs')
    have hfarx (heven : u.w % 2 = 0) : ∀ k ∈ [(chromaAxis u.posn (u.w - 1) u.hs u.nbx).1,
        (chromaAxis u.posn (u.w - 1) u.hs u.nbx).2.1], k = u.nbx - 1 := by
      rw [hposn, hhs]
      exact chromaAxis_far hw heven (by rw [Upsampling.nbx, hhs])
    have hfary (heven : u.h % 2 = 0) : ∀ k ∈ [(chromaAxis u.posn (u.h - 1) u.vs u.nby).1,
        (chromaAxis u.posn (u.h - 1) u.vs u.nby).2.1], k = u.nby - 1 := by
      rw [hposn, hvs]
      exact chromaAxis_far hh heven (by rw [Upsampling.nby, hvs])
    exact ⟨Upsampling.up_corner hhs' hvs' hw hh hnearx hneary,
      fun hw2 => Upsampling.up_corner hhs' hvs' hw hh (hfarx hw2) hneary,
      fun hh2 => Upsampling.up_corner hhs' hvs' hw hh hnearx (hfary hh2),
      fun hw2 hh2 => Upsampling.up_corner hhs' hvs' hw hh (hfarx hw2) (hfary hh2)⟩
  · obtain ⟨hiax, hibx, hfx⟩ := chromaAxis_bounds u.posn x hhs (one_le_ceilDiv hw hhs)
    obtain ⟨hiay, hiby, hfy⟩ := chromaAxis_bounds u.posn y hvs (one_le_ceilDiv hh hvs)
    refine Upsampling.up_between hhs hvs hhi (Upsampling.blend_between hfx.le hfy.le fun i hi j hj => h i ?_ j ?_)
    · simp only [List.mem_cons, List.not_mem_nil, or_false] at hi
      rcases hi with rfl | rfl
      · exact hiax
      · exact hibx
    · simp only [List.mem_cons, List.not_mem_nil, or_false] at hj
      rcases hj with rfl | rfl
      · exact hiay
      · exact hiby

end Sys2Proof.Machine
